-- ==== Sys2Proof/Word.lean ====
section
/-! DEFINITION. The word types of the block (spec 00_scope.md R7, R9): every one an unsigned bit vector. -/

namespace Sys2Proof

/-- A bus datum or register value: 32 bits, unsigned (R7, R9). -/
abbrev Word := BitVec 32

/-- A command word: 64 bits (R7, R80). -/
abbrev Cmd := BitVec 64

/-- A byte offset inside one of the four windows: 16 bits (R51, R81). -/
abbrev Off := BitVec 16

/-- The storage of one density_profile_rom field: 16 bits (R111). -/
abbrev Half := BitVec 16

end Sys2Proof
end

