-- ==== Sys2Proof/Syntax.lean ====
section
/-! DEFINITION. The commands of the register_write_sequencer (spec 30_encoding.md R81, R82): one constructor per
row of the opcode table. -/

namespace Sys2Proof

/-- The four windows of the target bus (20_memory.md R51). -/
inductive Space where
  | ctrl | phy | clk | sys
deriving DecidableEq, Repr, Inhabited

/-- The five commands (30_encoding.md R82, R83). `off` is a byte offset in the space, `slot` the index `k` of the
sample register `S[k]`, `lsb` and `wm1` the place and the width minus one of the field an RMW writes. -/
inductive Instr where
  /-- WR: write `imm` (41 R130). -/
  | wr (sp : Space) (off : Off) (imm : Word)
  /-- RD: read into `S[slot]` (41 R131). -/
  | rd (slot : BitVec 2) (sp : Space) (off : Off)
  /-- RMW: read, replace the field `[lsb + wm1 : lsb]` by `imm`, write back (41 R132). -/
  | rmw (sp : Space) (off : Off) (lsb : BitVec 5) (wm1 : BitVec 3) (imm : Word)
  /-- DLY: wait at least `ns` nanoseconds (41 R133). -/
  | dly (ns : Word)
  /-- END: end of segment (41 R134). -/
  | endSeg
deriving DecidableEq, Repr, Inhabited

end Sys2Proof
end

