-- ==== Sys2Proof/WellFormed.lean ====
section
/-! DEFINITION. Which commands are legal as syntax (spec 30_encoding.md R83, R84; 20_memory.md R68). The conditions on
unused fields of R84 have no counterpart here: an `Instr` has no unused field. -/

namespace Sys2Proof

/-- `off[1:0] = 0` (R68, R84). -/
def offAligned (off : Off) : Bool :=
  off.toNat % 4 == 0

/-- The field of an RMW lies inside the word: `lsb + wm1 + 1 <= 32` (R84). -/
def fieldInWord (lsb : BitVec 5) (wm1 : BitVec 3) : Bool :=
  decide (lsb.toNat + wm1.toNat + 1 ≤ 32)

/-- The value of an RMW fits its field: `imm < 2^(wm1+1)` (R84). -/
def valueInField (wm1 : BitVec 3) (imm : Word) : Bool :=
  decide (imm.toNat < 2 ^ (wm1.toNat + 1))

/-- A command is well-formed exactly when its word is legal (R84). -/
def Instr.wf : Instr → Bool
  | .wr _ off _ => offAligned off
  | .rd _ _ off => offAligned off
  | .rmw _ off lsb wm1 imm => offAligned off && fieldInWord lsb wm1 && valueInField wm1 imm
  | .dly _ => true
  | .endSeg => true

end Sys2Proof
end

