-- ==== Sys2Proof/Decode.lean ====
section
/-! DEFINITION. The command word (spec 30_encoding.md R80 to R85): its fields, the legality test of R84, the decoder
(total, rejecting by name) and the encoder. -/

namespace Sys2Proof

/-! ### Fields (R81) -/

/-- `c[63:60]`, the operation. -/
def cmdOp (c : Cmd) : BitVec 4 := c.extractLsb' 60 4

/-- `c[59:58]`, the space. -/
def cmdSp (c : Cmd) : BitVec 2 := c.extractLsb' 58 2

/-- `c[57:56]`, the sample slot. -/
def cmdSlot (c : Cmd) : BitVec 2 := c.extractLsb' 56 2

/-- `c[55:40]`, the byte offset. -/
def cmdOff (c : Cmd) : Off := c.extractLsb' 40 16

/-- `c[39:35]`, the field's least significant bit. -/
def cmdLsb (c : Cmd) : BitVec 5 := c.extractLsb' 35 5

/-- `c[34:32]`, the field's width minus one. -/
def cmdWm1 (c : Cmd) : BitVec 3 := c.extractLsb' 32 3

/-- `c[31:0]`, the data word. -/
def cmdImm (c : Cmd) : Word := c.extractLsb' 0 32

/-- `op<<60 | sp<<58 | slot<<56 | off<<40 | lsb<<35 | wm1<<32 | imm` (R81). -/
def assembleWord (op : BitVec 4) (sp slot : BitVec 2) (off : Off) (lsb : BitVec 5) (wm1 : BitVec 3) (imm : Word) : Cmd :=
  op.setWidth 64 <<< 60 ||| sp.setWidth 64 <<< 58 ||| slot.setWidth 64 <<< 56 ||| off.setWidth 64 <<< 40
    ||| lsb.setWidth 64 <<< 35 ||| wm1.setWidth 64 <<< 32 ||| imm.setWidth 64

/-- The space codes: 0 CTRL, 1 PHY, 2 CLK, 3 SYS (20_memory.md R51). -/
def spaceCode : Space → BitVec 2
  | .ctrl => 0
  | .phy => 1
  | .clk => 2
  | .sys => 3

/-- The space a code names; every code names one (20_memory.md R51). -/
def spaceOfCode (b : BitVec 2) : Space :=
  if b = 0 then .ctrl else if b = 1 then .phy else if b = 2 then .clk else .sys

/-! ### Legality (R84) -/

/-- `legal(c)`, as R84 writes it. -/
def legal (c : Cmd) : Bool :=
  if cmdOp c = 0x1 then
    c.extractLsb' 56 2 == 0 && c.extractLsb' 32 8 == 0 && c.extractLsb' 40 2 == 0
  else if cmdOp c = 0x2 then
    c.extractLsb' 32 8 == 0 && c.extractLsb' 40 2 == 0 && c.extractLsb' 0 32 == 0
  else if cmdOp c = 0x3 then
    c.extractLsb' 56 2 == 0 && c.extractLsb' 40 2 == 0
      && decide ((c.extractLsb' 35 5).toNat + (c.extractLsb' 32 3).toNat + 1 ≤ 32)
      && decide ((c.extractLsb' 0 32).toNat < 2 ^ ((c.extractLsb' 32 3).toNat + 1))
  else if cmdOp c = 0x4 then
    c.extractLsb' 32 28 == 0
  else if cmdOp c = 0xF then
    c.extractLsb' 0 60 == 0
  else false

/-! ### The decoder -/

/-- Why a word is no command (R84). Each of them makes the block take ILLEGAL_CMD (41 R136). -/
inductive Reject where
  /-- `op` is 0x0 or 0x5 to 0xE (R82). -/
  | reservedOp
  /-- A field R83 marks 0 is not 0. -/
  | unusedNonzero
  /-- `off[1:0]` is not 0 (R68). -/
  | misaligned
  /-- An RMW field reaches past bit 31. -/
  | fieldOutsideWord
  /-- An RMW value does not fit its field. -/
  | valueOutsideField
deriving DecidableEq, Repr

/-- WR (R83). -/
def decodeWr (c : Cmd) : Except Reject Instr :=
  if cmdSlot c ≠ 0 ∨ cmdLsb c ≠ 0 ∨ cmdWm1 c ≠ 0 then .error .unusedNonzero
  else if offAligned (cmdOff c) then .ok (.wr (spaceOfCode (cmdSp c)) (cmdOff c) (cmdImm c))
  else .error .misaligned

/-- RD (R83). -/
def decodeRd (c : Cmd) : Except Reject Instr :=
  if cmdLsb c ≠ 0 ∨ cmdWm1 c ≠ 0 ∨ cmdImm c ≠ 0 then .error .unusedNonzero
  else if offAligned (cmdOff c) then .ok (.rd (cmdSlot c) (spaceOfCode (cmdSp c)) (cmdOff c))
  else .error .misaligned

/-- RMW (R83). -/
def decodeRmw (c : Cmd) : Except Reject Instr :=
  if cmdSlot c ≠ 0 then .error .unusedNonzero
  else if !offAligned (cmdOff c) then .error .misaligned
  else if !fieldInWord (cmdLsb c) (cmdWm1 c) then .error .fieldOutsideWord
  else if !valueInField (cmdWm1 c) (cmdImm c) then .error .valueOutsideField
  else .ok (.rmw (spaceOfCode (cmdSp c)) (cmdOff c) (cmdLsb c) (cmdWm1 c) (cmdImm c))

/-- DLY (R83): bits [59:32] are 0. -/
def decodeDly (c : Cmd) : Except Reject Instr :=
  if c.extractLsb' 32 28 ≠ 0 then .error .unusedNonzero else .ok (.dly (cmdImm c))

/-- END (R83): bits [59:0] are 0. -/
def decodeEnd (c : Cmd) : Except Reject Instr :=
  if c.extractLsb' 0 60 ≠ 0 then .error .unusedNonzero else .ok .endSeg

/-- The command a word stands for, or why it stands for none (R82 to R84). -/
def decode (c : Cmd) : Except Reject Instr :=
  if cmdOp c = 0x1 then decodeWr c
  else if cmdOp c = 0x2 then decodeRd c
  else if cmdOp c = 0x3 then decodeRmw c
  else if cmdOp c = 0x4 then decodeDly c
  else if cmdOp c = 0xF then decodeEnd c
  else .error .reservedOp

/-- The decoder on the bits of an opcode-table row: a command is ONE 64-bit word (R80), so the bits are its bits. -/
def decodeTableWord (nbits w : Nat) : Option Instr :=
  if nbits ≤ 64 ∧ w < 2 ^ nbits then
    match decode (BitVec.ofNat 64 w) with
    | .ok i => some i
    | .error _ => none
  else none

/-! ### The encoder -/

/-- The word of a command (R81 to R83). It is defined on every `Instr`; on a well-formed one the word is legal. -/
def encode : Instr → Cmd
  | .wr sp off imm => assembleWord 0x1 (spaceCode sp) 0 off 0 0 imm
  | .rd slot sp off => assembleWord 0x2 (spaceCode sp) slot off 0 0 0
  | .rmw sp off lsb wm1 imm => assembleWord 0x3 (spaceCode sp) 0 off lsb wm1 imm
  | .dly ns => assembleWord 0x4 0 0 0 0 0 ns
  | .endSeg => assembleWord 0xF 0 0 0 0 0 0

end Sys2Proof
end

