-- ==== Sys2Proof/Config.lean ====
section
/-! DEFINITION. What an implementation fixes (the configuration record CFG of spec 00_scope.md R6, 92_eei_decisions.md
section 2) and the free values. Only types and uninterpreted constants stand here: the spec's default values and CFG's
constraints are Machine/Defaults.lean's. -/

namespace Sys2Proof.Config

/-- The five density classes (30_encoding.md R86). -/
inductive Density where
  | d32M | d64M | d128M | d256M | d512M
deriving DecidableEq, Repr, Inhabited

/-- The four DRAM ports (00_scope.md R7). -/
abbrev Port := Fin 4

/-- The controller registers of 20_memory.md R69. -/
inductive RegName where
  | mstr | mrctrl0 | mrctrl1 | derateen | derateint | pwrctl | pwrtmg | hwlpctl
  | rfshctl0 | rfshctl1 | rfshctl3 | rfshtmg
  | init0 | init1 | init2 | init3 | init4 | init5 | dimmctl | rankctl
  | dramtmg0 | dramtmg1 | dramtmg2 | dramtmg3 | dramtmg4 | dramtmg5 | dramtmg6 | dramtmg7 | dramtmg14
  | zqctl0 | zqctl1 | dfitmg0 | dfitmg1 | dfilpcfg0
  | dfiupd0 | dfiupd1 | dfiupd2 | dfimisc | dfiphymstr
  | addrmap0 | addrmap1 | addrmap2 | addrmap3 | addrmap4 | addrmap5 | addrmap6
  | odtcfg | odtmap | sched | sched1 | perfhpr1 | perflpr1 | perfwr1
  | dbg0 | dbg1 | dbgcmd | swctl | pccfg
  | pcfgr (n : Port) | pcfgw (n : Port) | pctrl (n : Port)
  | pcfgqos0 (n : Port) | pcfgqos1 (n : Port) | pcfgwqos0 (n : Port) | pcfgwqos1 (n : Port)
deriving DecidableEq, Repr, Inhabited

/-- The register fields of 20_memory.md R70. -/
inductive FieldName where
  | rfcMin | rfcNomX32
  | preCkeX1024 | postCkeX1024
  | minStableClockX1 | idleAfterResetX32
  | devZqinitX32
  | tRasMin | tRasMax | tFaw | wr2pre
  | tRc | wr2rd
  | tRp | tRrd | tCcd | tRcd
  | tXsr
  | zqShortNop | zqLongNop | disSrxZqcl | zqResetNop
  | csBit0
  | bankB0 | bankB1 | bankB2
  | colB8 | colB9 | colB10 | colB11
  | rowB0 | rowB1 | rowB2_10 | rowB11
  | rowB12 | rowB13 | rowB14 | rowB15
  | lprNumEntries
  | rdPortPriority | rdPortAgingEn
  | wrPortPriority | wrPortAgingEn
deriving DecidableEq, Repr, Inhabited

/-- The place of a field in its register (R70). -/
structure FieldPos where
  lsb : Nat
  width : Nat
deriving DecidableEq, Repr, Inhabited

/-- A register a CFG field names: one of R69's, or a bare offset. -/
inductive RegRef where
  | reg (r : RegName)
  | off (o : Off)
deriving DecidableEq, Repr, Inhabited

/-- An offset and the value written there. -/
structure RegWrite where
  off : Off
  val : Word
deriving DecidableEq, Repr, Inhabited

/-- One value for each of the two branches of 42 R164. -/
structure PerBranch (α : Type) where
  b32M : α
  common : α
deriving DecidableEq, Repr, Inhabited

/-- One value for each density class. -/
structure PerClass (α : Type) where
  c32M : α
  c64M : α
  c128M : α
  c256M : α
  c512M : α
deriving DecidableEq, Repr, Inhabited

/-- One value for each DRAM port. -/
structure PerPort (α : Type) where
  p0 : α
  p1 : α
  p2 : α
  p3 : α
deriving DecidableEq, Repr, Inhabited

/-- The window bases and the attribute of every access (92 section 2.1; 20 R51, 60 R240). The attribute's type is the
platform's: a number names it. -/
structure Platform where
  ctrlBase : Word
  phyBase : Word
  clkBase : Word
  sysBase : Word
  privAttr : Nat
deriving DecidableEq, Repr, Inhabited

/-- Clock select and reset register (92 section 2.2; 20 R72, R73; 42 R154, R155). -/
structure ClkRst where
  clkSelOff : Off
  clkSelLsb : BitVec 5
  clkParent200 : Word
  clkParent156 : Word
  rstOff : Off
  rstAssertVal : Word
  rstDeassertVal : Word
  rstHsVal : Word
  tRstPulse : Word
deriving DecidableEq, Repr, Inhabited

/-- The four drive-strength and ODT registers of one nibble group (42 R157 rows 10 to 25). -/
structure NibbleGroup where
  pdDs : RegWrite
  pdOdt : RegWrite
  puDs : RegWrite
  puOdt : RegWrite
deriving DecidableEq, Repr, Inhabited

/-- The two nibble groups of one byte lane. -/
structure ByteLane where
  low : NibbleGroup
  high : NibbleGroup
deriving DecidableEq, Repr, Inhabited

/-- PHY static configuration (92 section 2.3; 42 R157). -/
structure PhyStatic where
  phyType : RegWrite
  phyRl : RegWrite
  phyWl : RegWrite
  pllFbdiv : RegWrite
  pllOut : RegWrite
  pllDiv : RegWrite
  cmdDs : RegWrite
  clkDs : RegWrite
  pullup : RegWrite
  laneA : ByteLane
  laneB : ByteLane
  phyW16Val : Word
deriving DecidableEq, Repr, Inhabited

/-- Controller words with one value per branch (92 section 2.4, the entries marked `[B]`). -/
structure BranchWords where
  init1Val : Word
  init4Val : Word
  init5Extra : Word
  rankctlVal : Word
  tmg1Extra : Word
  tmg2Extra : Word
  tmg3Val : Word
  tmg5Val : Word
  tmg6Val : Word
  tmg7Val : Word
deriving DecidableEq, Repr, Inhabited

/-- Controller programming (92 section 2.4; 42 R159 to R174). `N_SCHED_AUX` and `N_VARPRI` are the lists' lengths. -/
structure CtrlProg where
  mstrLpddr2 : Word
  mstrBus16 : Word
  mstrBurstRdwr : Word
  mstrActiveRanks : Word
  mrctrl0Val : Word
  derateenVal : Word
  derateintVal : Word
  pwrtmgVal : Word
  pwrctlVal : Word
  hwlpctlVal : Word
  rfshctl0Val : Word
  rfshAux0 : Off
  rfshAux1 : Off
  rfshAux2 : Off
  branch : PerBranch BranchWords
  zqctl0Extra : Word
  zqctl1Extra : Word
  dfitmg0Val : Word
  dfitmg1Val : Word
  dfilpcfg0Val : Word
  dfiupd0Val : Word
  dfiPhyupdReg : RegRef
  dfiPhyupdVal : Word
  addrmap3Extra : PerClass Word
  csBit0 : BitVec 5
  odtcfgVal : Word
  schedBase : Word
  schedAux : List Off
  qosMap : Word
  perfhpr1Val : Word
  perflpr1Val : Word
  perfwr1Val : Word
  varpri : List RegRef
deriving DecidableEq, Repr, Inhabited

/-- ROM fields without a value, one set per branch (92 section 2.5; 40 R111). The source names no member of the CKPD
family, so it is a list. -/
structure RomOpenBranch where
  preCkeX1024 : Half
  minStableClockX1 : Half
  mr3 : Half
  tRrd : Half
  tCcd : Half
  tCke : Half
  tCkesr : Half
  tCksre : Half
  tCksrx : Half
  ckpd : List Half
deriving DecidableEq, Repr, Inhabited

/-- Column and row shift fields, one set per class (92 section 2.5; 40 R111). `rowB13` counts only where R116 gives no
value. -/
structure RomOpenClass where
  colB8 : Half
  colB9 : Half
  colB10 : Half
  colB11 : Half
  rowB0 : Half
  rowB1 : Half
  rowB2_10 : Half
  rowB11 : Half
  rowB12 : Half
  rowB13 : Half
  rowB14 : Half
  rowB15 : Half
deriving DecidableEq, Repr, Inhabited

/-- The row fields `CFG.ROW512_PAIR` chooses from (40 R116). -/
inductive RowField where
  | b0 | b1 | b2_10 | b11 | b12 | b13 | b14 | b15
deriving DecidableEq, Repr, Inhabited

/-- The density ROM's open part (92 section 2.5). -/
structure RomOpen where
  branch : PerBranch RomOpenBranch
  perClass : PerClass RomOpenClass
  row512First : RowField
  row512Second : RowField
deriving DecidableEq, Repr, Inhabited

/-- How the predicate subtracts (43 R203). -/
inductive DiffMode where
  | exact | wrapI32
deriving DecidableEq, Repr, Inhabited

/-- A DRAM port gate (20 R74). -/
structure PortGate where
  sp : Space
  off : Off
  val : Word
deriving DecidableEq, Repr, Inhabited

/-- Handshake, training and port enable (92 section 2.6). -/
structure Training where
  tHsSettle : Word
  tHsRst : Word
  tHsSwctl : Word
  tHsPll : Word
  tHsOdt : Word
  tHsDfi : Word
  swctlSp : Space
  swctlOff : Off
  swctlHsVal : Word
  pllHsVal : Word
  hsOdt : RegWrite
  dfiSp : Space
  dfiOff : Off
  dfiInitOnVal : Word
  dfiInitOffVal : Word
  trnSp : Space
  trnOff : Off
  trnOnVal : Word
  trnOffVal : Word
  tTrnHold : Word
  resOff0 : Off
  resOff1 : Off
  resOff2 : Off
  resOff3 : Off
  diffMode : DiffMode
  portEn : PerPort PortGate
deriving DecidableEq, Repr, Inhabited

/-- The configuration record CFG (00_scope.md R6). `ctrlOff` and `pack` list the entries that replace the defaults of
20 R69 and R70 ("a model that knows its target's register map replaces any entry"). -/
structure Cfg where
  platform : Platform
  ctrlOff : List (RegName × Off)
  pack : List (FieldName × FieldPos)
  clkRst : ClkRst
  phy : PhyStatic
  prog : CtrlProg
  rom : RomOpen
  trn : Training
deriving DecidableEq, Repr, Inhabited

/-- The input pins in one step (10 R32, 20 R52, R57, 70 R260). -/
structure Pins where
  rst : Bool
  start : Bool
  density : BitVec 3
  mAck : Bool
  mRdata : Word
  dDone : Bool
deriving DecidableEq, Repr, Inhabited

/-- The CFG of the machine after reset, of which only the OPEN fields are used (Machine/Defaults.lean puts the spec's
values over the others). Uninterpreted: no source gives these values (log 1). -/
opaque openCfg : Cfg

/-- What the environment puts on the pins in step `n` when State lists no sample for it: any value, under no law
(20 R55, 93 P3, P4; log 3). -/
opaque freePins : Nat → Pins

/-- Whether the target performed an access that was withdrawn in step `n` (70 R262, 93 P7; log 5). -/
opaque freePerformed : Nat → Bool

/-- `step` after a command other than END completes at step 255 in step `n`: the spec states no value (10 R22; log 8). -/
opaque freeStep : Nat → BitVec 8

/-- `attempt` after an attempt begins at attempt 127 in step `n`: the spec states no value (10 R25; log 8). -/
opaque freeAttempt : Nat → BitVec 7

end Sys2Proof.Config
end

