-- ==== Sys2Proof/Machine/Codes.lean ====
section
/-! DEFINITION. The codes of the FSM state, the sequencer sub-state and the errors (spec 30_encoding.md R88, R89;
10_state.md R21, R28). -/

namespace Sys2Proof.Machine

/-- The FSM states (10 R21). -/
inductive FsmState where
  | idle | entryRst | clkSel | phyCfg | ctrlCfg | trnHs | trnPulse | trnSample | trnEval | portEn | done | error
deriving DecidableEq, Repr, Inhabited

/-- The code of a state (30 R88). -/
def stateCode : FsmState → BitVec 4
  | .idle => 0
  | .entryRst => 1
  | .clkSel => 2
  | .phyCfg => 3
  | .ctrlCfg => 4
  | .trnHs => 5
  | .trnPulse => 6
  | .trnSample => 7
  | .trnEval => 8
  | .portEn => 9
  | .done => 10
  | .error => 15

/-- The state a code names; codes 11 to 14 are unused (30 R88). -/
def stateOf (b : BitVec 4) : Option FsmState :=
  if b = 0 then some .idle
  else if b = 1 then some .entryRst
  else if b = 2 then some .clkSel
  else if b = 3 then some .phyCfg
  else if b = 4 then some .ctrlCfg
  else if b = 5 then some .trnHs
  else if b = 6 then some .trnPulse
  else if b = 7 then some .trnSample
  else if b = 8 then some .trnEval
  else if b = 9 then some .portEn
  else if b = 10 then some .done
  else if b = 15 then some .error
  else none

/-- The command-bearing states (10 R22). -/
def commandBearing : FsmState → Bool
  | .entryRst | .clkSel | .phyCfg | .ctrlCfg | .trnHs | .trnPulse | .trnSample | .portEn => true
  | .idle | .trnEval | .done | .error => false

/-- The sequencer's sub-states (10 R28). -/
inductive SeqState where
  | idle | wr | rd | rmwRd | rmwWr | dly
deriving DecidableEq, Repr, Inhabited

/-- The code of a sub-state (10 R28). -/
def seqCode : SeqState → BitVec 3
  | .idle => 0
  | .wr => 1
  | .rd => 2
  | .rmwRd => 3
  | .rmwWr => 4
  | .dly => 5

/-- The sub-state a code names; 6 and 7 are unused (10 R28). -/
def seqOf (b : BitVec 3) : Option SeqState :=
  if b = 0 then some .idle
  else if b = 1 then some .wr
  else if b = 2 then some .rd
  else if b = 3 then some .rmwRd
  else if b = 4 then some .rmwWr
  else if b = 5 then some .dly
  else none

/-- The errors the block raises (30 R89). -/
inductive ErrCode where
  | illegalDensity | illegalCmd | illegalState
deriving DecidableEq, Repr, Inhabited

/-- The code in `err_code`; 0 is NONE (30 R89). -/
def errCodeBits : ErrCode → BitVec 4
  | .illegalDensity => 1
  | .illegalCmd => 2
  | .illegalState => 3

end Sys2Proof.Machine
end

