-- ==== Sys2Proof/Machine/Defaults.lean ====
section
/-! DEFINITION. CFG's lookups and default values (spec 20_memory.md R69, R70, R74; 92_eei_decisions.md section 2). The
tables of R69 and R70 are the spec's defaults, taken by it from general knowledge (93 G1, G2). -/

namespace Sys2Proof.Machine

open Sys2Proof.Config

/-! ### Selectors -/

/-- The value for a class. -/
def forClass {α : Type} (v : PerClass α) : Density → α
  | .d32M => v.c32M
  | .d64M => v.c64M
  | .d128M => v.c128M
  | .d256M => v.c256M
  | .d512M => v.c512M

/-- The value for the branch of a class: `B = 32M` if the class is 32M, else COMMON (42 R164). -/
def forBranch {α : Type} (v : PerBranch α) : Density → α
  | .d32M => v.b32M
  | _ => v.common

/-- The value for a port. -/
def forPort {α : Type} (v : PerPort α) : Port → α
  | 0 => v.p0
  | 1 => v.p1
  | 2 => v.p2
  | 3 => v.p3

/-- The four ports in order. -/
def allPorts : List Port := [0, 1, 2, 3]

/-! ### Register offsets (20 R69) -/

/-- `base + 0xb0·n`, the stride of the per-port registers. -/
def portOffset (base : Off) (n : Port) : Off := base + 0xb0 * BitVec.ofNat 16 n.val

/-- The default of `CFG.CTRL_OFF` (R69's table). -/
def ctrlOffDefault : RegName → Off
  | .mstr => 0x000 | .mrctrl0 => 0x010 | .mrctrl1 => 0x014 | .derateen => 0x020 | .derateint => 0x024
  | .pwrctl => 0x030 | .pwrtmg => 0x034 | .hwlpctl => 0x038
  | .rfshctl0 => 0x050 | .rfshctl1 => 0x054 | .rfshctl3 => 0x060 | .rfshtmg => 0x064
  | .init0 => 0x0d0 | .init1 => 0x0d4 | .init2 => 0x0d8 | .init3 => 0x0dc | .init4 => 0x0e0 | .init5 => 0x0e4
  | .dimmctl => 0x0f0 | .rankctl => 0x0f4
  | .dramtmg0 => 0x100 | .dramtmg1 => 0x104 | .dramtmg2 => 0x108 | .dramtmg3 => 0x10c | .dramtmg4 => 0x110
  | .dramtmg5 => 0x114 | .dramtmg6 => 0x118 | .dramtmg7 => 0x11c | .dramtmg14 => 0x138
  | .zqctl0 => 0x180 | .zqctl1 => 0x184 | .dfitmg0 => 0x190 | .dfitmg1 => 0x194 | .dfilpcfg0 => 0x198
  | .dfiupd0 => 0x1a0 | .dfiupd1 => 0x1a4 | .dfiupd2 => 0x1a8 | .dfimisc => 0x1b0 | .dfiphymstr => 0x1c4
  | .addrmap0 => 0x200 | .addrmap1 => 0x204 | .addrmap2 => 0x208 | .addrmap3 => 0x20c | .addrmap4 => 0x210
  | .addrmap5 => 0x214 | .addrmap6 => 0x218
  | .odtcfg => 0x240 | .odtmap => 0x244 | .sched => 0x250 | .sched1 => 0x254
  | .perfhpr1 => 0x25c | .perflpr1 => 0x264 | .perfwr1 => 0x26c
  | .dbg0 => 0x300 | .dbg1 => 0x304 | .dbgcmd => 0x30c | .swctl => 0x320 | .pccfg => 0x400
  | .pcfgr n => portOffset 0x404 n | .pcfgw n => portOffset 0x408 n | .pctrl n => portOffset 0x490 n
  | .pcfgqos0 n => portOffset 0x494 n | .pcfgqos1 n => portOffset 0x498 n
  | .pcfgwqos0 n => portOffset 0x49c n | .pcfgwqos1 n => portOffset 0x4a0 n

/-- R69's registers MSTR to RANKCTL. -/
def regsMaster : List RegName :=
  [.mstr, .mrctrl0, .mrctrl1, .derateen, .derateint, .pwrctl, .pwrtmg, .hwlpctl, .rfshctl0, .rfshctl1, .rfshctl3,
    .rfshtmg, .init0, .init1, .init2, .init3, .init4, .init5, .dimmctl, .rankctl]

/-- R69's registers DRAMTMG0 to DFIPHYMSTR. -/
def regsTiming : List RegName :=
  [.dramtmg0, .dramtmg1, .dramtmg2, .dramtmg3, .dramtmg4, .dramtmg5, .dramtmg6, .dramtmg7, .dramtmg14, .zqctl0,
    .zqctl1, .dfitmg0, .dfitmg1, .dfilpcfg0, .dfiupd0, .dfiupd1, .dfiupd2, .dfimisc, .dfiphymstr]

/-- R69's registers ADDRMAP0 to PCCFG. -/
def regsMapping : List RegName :=
  [.addrmap0, .addrmap1, .addrmap2, .addrmap3, .addrmap4, .addrmap5, .addrmap6, .odtcfg, .odtmap, .sched, .sched1,
    .perfhpr1, .perflpr1, .perfwr1, .dbg0, .dbg1, .dbgcmd, .swctl, .pccfg]

/-- R69's registers of one port. -/
def regsOfPort (n : Port) : List RegName :=
  [.pcfgr n, .pcfgw n, .pctrl n, .pcfgqos0 n, .pcfgqos1 n, .pcfgwqos0 n, .pcfgwqos1 n]

/-- The registers of R69, the per-port ones for every port. -/
def allRegs : List RegName :=
  regsMaster ++ (regsTiming ++ (regsMapping ++ allPorts.flatMap regsOfPort))

/-- `CFG.CTRL_OFF(r)`: the replacing entry if CFG lists one, else the default (R69). -/
def ctrlOff (cfg : Cfg) (r : RegName) : Off :=
  (cfg.ctrlOff.lookup r).getD (ctrlOffDefault r)

/-- The offset a register reference stands for. -/
def refOff (cfg : Cfg) : RegRef → Off
  | .reg r => ctrlOff cfg r
  | .off o => o

/-! ### Field places (20 R70) -/

/-- The default of `CFG.PACK` (R70's table); `[hi:lo]` there is `lsb = lo`, `width = hi - lo + 1` here. -/
def packDefault : FieldName → FieldPos
  | .rfcMin => ⟨0, 10⟩ | .rfcNomX32 => ⟨16, 12⟩
  | .preCkeX1024 => ⟨0, 12⟩ | .postCkeX1024 => ⟨16, 10⟩
  | .minStableClockX1 => ⟨0, 4⟩ | .idleAfterResetX32 => ⟨8, 8⟩
  | .devZqinitX32 => ⟨16, 8⟩
  | .tRasMin => ⟨0, 6⟩ | .tRasMax => ⟨8, 7⟩ | .tFaw => ⟨16, 6⟩ | .wr2pre => ⟨24, 7⟩
  | .tRc => ⟨0, 7⟩ | .wr2rd => ⟨0, 6⟩
  | .tRp => ⟨0, 5⟩ | .tRrd => ⟨8, 4⟩ | .tCcd => ⟨16, 4⟩ | .tRcd => ⟨24, 5⟩
  | .tXsr => ⟨0, 12⟩
  | .zqShortNop => ⟨0, 10⟩ | .zqLongNop => ⟨16, 11⟩ | .disSrxZqcl => ⟨30, 1⟩ | .zqResetNop => ⟨20, 10⟩
  | .csBit0 => ⟨0, 5⟩
  | .bankB0 => ⟨0, 5⟩ | .bankB1 => ⟨8, 5⟩ | .bankB2 => ⟨16, 5⟩
  | .colB8 => ⟨16, 4⟩ | .colB9 => ⟨24, 4⟩ | .colB10 => ⟨0, 4⟩ | .colB11 => ⟨8, 4⟩
  | .rowB0 => ⟨0, 4⟩ | .rowB1 => ⟨8, 4⟩ | .rowB2_10 => ⟨16, 4⟩ | .rowB11 => ⟨24, 4⟩
  | .rowB12 => ⟨0, 4⟩ | .rowB13 => ⟨8, 4⟩ | .rowB14 => ⟨16, 4⟩ | .rowB15 => ⟨24, 4⟩
  | .lprNumEntries => ⟨8, 5⟩
  | .rdPortPriority => ⟨0, 10⟩ | .rdPortAgingEn => ⟨12, 1⟩
  | .wrPortPriority => ⟨0, 10⟩ | .wrPortAgingEn => ⟨12, 1⟩

/-- R70's fields of RFSHTMG to ZQCTL1. -/
def fieldsTiming : List FieldName :=
  [.rfcMin, .rfcNomX32, .preCkeX1024, .postCkeX1024, .minStableClockX1, .idleAfterResetX32, .devZqinitX32, .tRasMin,
    .tRasMax, .tFaw, .wr2pre, .tRc, .wr2rd, .tRp, .tRrd, .tCcd, .tRcd, .tXsr, .zqShortNop, .zqLongNop, .disSrxZqcl,
    .zqResetNop]

/-- R70's fields of ADDRMAP0 to PCFGW_n. -/
def fieldsMapping : List FieldName :=
  [.csBit0, .bankB0, .bankB1, .bankB2, .colB8, .colB9, .colB10, .colB11, .rowB0, .rowB1, .rowB2_10, .rowB11, .rowB12,
    .rowB13, .rowB14, .rowB15, .lprNumEntries, .rdPortPriority, .rdPortAgingEn, .wrPortPriority, .wrPortAgingEn]

/-- The fields of R70. -/
def allFields : List FieldName := fieldsTiming ++ fieldsMapping

/-- `CFG.PACK(f)`: the replacing entry if CFG lists one, else the default (R70). -/
def packOf (cfg : Cfg) (f : FieldName) : FieldPos :=
  (cfg.pack.lookup f).getD (packDefault f)

/-- `fld(REG.field, v) = v << lsb(REG.field)`, bits above 31 dropped (00 R8, R11). -/
def fld (cfg : Cfg) (f : FieldName) (v : Word) : Word :=
  v <<< (packOf cfg f).lsb

/-- R11's requirement on `fld`: `v < 2^width(REG.field)`. -/
def fldFits (cfg : Cfg) (f : FieldName) (v : Word) : Bool :=
  decide (v.toNat < 2 ^ (packOf cfg f).width)

/-! ### The values 92 section 2 decides or defaults -/

/-- The default of `CFG.VARPRI`: for n = 0..3, PCFGQOS1_n, PCFGWQOS0_n, PCFGWQOS1_n (42 R174). -/
def varpriDefault : List RegRef :=
  allPorts.flatMap fun n => [.reg (.pcfgqos1 n), .reg (.pcfgwqos0 n), .reg (.pcfgwqos1 n)]

/-- The default gate of port `n`: CTRL, `0x490 + 0xb0·n`, value 1 (20 R74). -/
def portGateDefault (n : Port) : PortGate := ⟨.ctrl, portOffset 0x490 n, 1⟩

/-- The branch words with the extra words that 92 section 2.4 defaults to 0. -/
def branchWordsWithDefaults (w : BranchWords) : BranchWords :=
  { w with tmg1Extra := 0, tmg2Extra := 0 }

/-- The controller-programming part with the defaults of 92 section 2.4. -/
def ctrlProgWithDefaults (p : CtrlProg) : CtrlProg :=
  { p with
    mstrLpddr2 := 0x00000004
    mstrBus16 := 0x00001000
    derateenVal := 0
    branch := ⟨branchWordsWithDefaults p.branch.b32M, branchWordsWithDefaults p.branch.common⟩
    zqctl0Extra := 0
    zqctl1Extra := 0
    dfiPhyupdReg := .reg .dfiupd2
    addrmap3Extra := ⟨0, 0, 0, 0, 0⟩
    varpri := varpriDefault }

/-- The training part with the defaults and decided values of 92 section 2.6. -/
def trainingWithDefaults (t : Training) : Training :=
  { t with
    swctlSp := .ctrl
    swctlOff := 0x320
    swctlHsVal := 0
    dfiSp := .ctrl
    dfiOff := 0x1b0
    dfiInitOnVal := 0x00000020
    dfiInitOffVal := 0
    trnOffVal := 0
    resOff0 := 0x3ec
    resOff1 := 0x3f0
    resOff2 := 0x3f4
    resOff3 := 0x3f8
    diffMode := .exact
    portEn := ⟨portGateDefault 0, portGateDefault 1, portGateDefault 2, portGateDefault 3⟩ }

/-- CFG with every default of 92 section 2 in place and its OPEN fields as they were. -/
def withDefaults (c : Cfg) : Cfg :=
  { c with
    ctrlOff := []
    pack := []
    prog := ctrlProgWithDefaults c.prog
    trn := trainingWithDefaults c.trn }

end Sys2Proof.Machine
end

