-- ==== Sys2Proof/Machine/State.lean ====
section
/-! DEFINITION. The machine's state (spec 10_state.md R20), the state after reset (R34), and the reasons to stop. -/

namespace Sys2Proof.Machine

open Sys2Proof.Config

/-- The sample registers `S[0]` to `S[3]`, the source's fb, fc, fd, fe (10 R24). -/
structure Samples where
  s0 : Word
  s1 : Word
  s2 : Word
  s3 : Word
deriving DecidableEq, Repr, Inhabited

/-- An event of the trace (20 R60). -/
inductive Event where
  /-- `W(addr, v)`: a completed write. -/
  | write (addr v : Word)
  /-- `R(addr, v)`: a completed read that returned `v`. -/
  | read (addr v : Word)
  /-- `D(ns)`: a completed delay. -/
  | delay (ns : Word)
deriving DecidableEq, Repr, Inhabited

/-- An access on the bus master port (20 R52): `write` has `m_we = 1`. -/
inductive BusReq where
  | write (addr data : Word)
  | read (addr : Word)
deriving DecidableEq, Repr, Inhabited

/-- An access that was abandoned in flight, and whether its target performed it: not known (70 R262). -/
structure Withdrawn where
  req : BusReq
  performed : Bool
deriving DecidableEq, Repr, Inhabited

/-- A cell of the segment storage, at `(state, step)`, that holds a word of its own (log 2). -/
structure SegCell where
  state : BitVec 4
  step : BitVec 8
  word : Cmd
deriving DecidableEq, Repr, Inhabited

/-- The block's registers, with the names of 10 R20, and the model's own fields `cfg` to `withdrawn` (INVENTORY.md). -/
structure State where
  /-- The FSM state's code (30 R88). -/
  state : BitVec 4
  /-- Index of the next command in the segment (10 R22). -/
  step : BitVec 8
  /-- The latched density code (10 R23). -/
  dens : BitVec 3
  /-- The sample registers (10 R24). -/
  S : Samples
  /-- Attempts begun (10 R25). -/
  attempt : BitVec 7
  converged : Bool
  done : Bool
  err : Bool
  /-- `err_code` (30 R89). -/
  errCode : BitVec 4
  /-- `err_state` (60 R233). -/
  errState : BitVec 4
  /-- `err_step` (60 R233). -/
  errStep : BitVec 8
  /-- The sequencer's sub-state's code (10 R28). -/
  seq : BitVec 3
  /-- The last command word fetched. -/
  cur : Cmd
  /-- `rmw_old`, the value the first half of an RMW read. -/
  rmwOld : Word
  /-- CFG, the machine's parameter (00 R6); no step writes it. -/
  cfg : Cfg
  /-- Segment cells that do not hold the word of 42 R151; no step writes them (log 2). -/
  segPatch : List SegCell
  /-- The input pins' samples, this step's first (log 3). -/
  pins : List Pins
  /-- The number of steps taken: what free values are drawn at (log 3). -/
  tick : Nat
  /-- The event trace, oldest first (20 R60). -/
  trace : List Event
  /-- Accesses abandoned in flight (log 5). -/
  withdrawn : List Withdrawn
deriving DecidableEq, Repr

/-- Why the machine stops. Each one is raised only in a state that no run from reset reaches and to which the spec gives
no effect (log 7). -/
inductive Fault where
  /-- Raised by the completion of a command when `seq` holds an unused code (10 R28). Safe. -/
  | seqUnused
  /-- Raised by the fetch and by TRN_EVAL when `dens` holds 5 to 7 there, a class that is never looked up (40 R110). Safe. -/
  | classNotLookedUp
  /-- Raised by TRN_EVAL when no attempt is left and `attempt` is above 100 (10 R25, 43 R207, R208). Safe. -/
  | attemptOverrun
  /-- Raised by END in a state that has no segment, for which 41 R134 gives no next state. Safe. -/
  | endOutsideSegment
deriving DecidableEq, Repr

/-- Why an instruction has no meaning. -/
inductive Refusal where
  /-- Raised by `exec` for an instruction without a meaning; no arm uses it. Safe. -/
  | notModelled (mnemonic : String)
deriving DecidableEq, Repr

/-- What a step or a meaning answers. -/
abbrev Result := Host.Outcome State Fault Refusal

/-- The machine right after reset (10 R34), with CFG's defaults in place and its OPEN fields uninterpreted (log 1). -/
def State.reset : State where
  state := stateCode .idle
  step := 0
  dens := 0
  S := ⟨0, 0, 0, 0⟩
  attempt := 0
  converged := false
  done := false
  err := false
  errCode := 0
  errState := 0
  errStep := 0
  seq := seqCode .idle
  cur := 0
  rmwOld := 0
  cfg := withDefaults openCfg
  segPatch := []
  pins := []
  tick := 0
  trace := []
  withdrawn := []

end Sys2Proof.Machine
end

