-- ==== Sys2Proof/Machine/Operands.lean ====
section
/-! DEFINITION. The operands of a command: addresses, the RMW's mask and merge, the sample registers (spec 30_encoding.md
R85, 20_memory.md R51), read from the command word that is executing. -/

namespace Sys2Proof.Machine

open Sys2Proof.Config

/-- `BASE[sp]` (20 R51). -/
def baseOf (p : Platform) : Space → Word
  | .ctrl => p.ctrlBase
  | .phy => p.phyBase
  | .clk => p.clkBase
  | .sys => p.sysBase

/-- `addr = BASE[sp] + zext_32(off)` on the 32-bit address bus (20 R51, 30 R85; log 10 for a CFG whose window wraps). -/
def physAddr (cfg : Cfg) (sp : Space) (off : Off) : Word :=
  baseOf cfg.platform sp + off.setWidth 32

/-- `mask = ((2^(wm1+1)) - 1) << lsb`, 32 bits (30 R85, 41 R132). -/
def rmwMask (lsb : BitVec 5) (wm1 : BitVec 3) : Word :=
  BitVec.ofNat 32 (2 ^ (wm1.toNat + 1) - 1) <<< lsb.toNat

/-- `new = (old & ~mask) | ((imm << lsb) & mask)` (41 R132). -/
def rmwMerge (lsb : BitVec 5) (wm1 : BitVec 3) (imm old : Word) : Word :=
  (old &&& ~~~ rmwMask lsb wm1) ||| ((imm <<< lsb.toNat) &&& rmwMask lsb wm1)

/-- `S[k]` (10 R24). -/
def readSample (S : Samples) (k : BitVec 2) : Word :=
  if k = 0 then S.s0 else if k = 1 then S.s1 else if k = 2 then S.s2 else S.s3

/-- `S[k] <- v` (10 R24). -/
def writeSample (S : Samples) (k : BitVec 2) (v : Word) : Samples :=
  if k = 0 then { S with s0 := v }
  else if k = 1 then { S with s1 := v }
  else if k = 2 then { S with s2 := v }
  else { S with s3 := v }

/-! ### The command in flight: `cur`, the one executing (10 R20) -/

/-- The address of the access of the command in `cur`. -/
def curAddr (s : State) : Word := physAddr s.cfg (spaceOfCode (cmdSp s.cur)) (cmdOff s.cur)

/-- The word the write half of the RMW in `cur` writes. -/
def curMerged (s : State) : Word := rmwMerge (cmdLsb s.cur) (cmdWm1 s.cur) (cmdImm s.cur) s.rmwOld

/-- The access in flight, if one is (10 R28, R29; 20 R52). DESIGN CHOICE: with `seq` at an unused code none is, so nothing is
withdrawn there (log 24). -/
def inFlight (s : State) : Option BusReq :=
  match seqOf s.seq with
  | some .wr => some (.write (curAddr s) (cmdImm s.cur))
  | some .rd => some (.read (curAddr s))
  | some .rmwRd => some (.read (curAddr s))
  | some .rmwWr => some (.write (curAddr s) (curMerged s))
  | some .idle => none
  | some .dly => none
  | none => none

end Sys2Proof.Machine
end

