-- ==== Sys2Proof/Machine/Rom.lean ====
section
/-! DEFINITION. density_profile_rom (spec 40_density_profile_rom.md): the class codes and the table ROM(d). -/

namespace Sys2Proof.Machine

open Sys2Proof.Config

/-! ### Class codes (30 R86, R87) -/

/-- The class a code names; codes 5, 6 and 7 name none. -/
def classOf (d : BitVec 3) : Option Density :=
  if d = 0 then some .d32M
  else if d = 1 then some .d64M
  else if d = 2 then some .d128M
  else if d = 3 then some .d256M
  else if d = 4 then some .d512M
  else none

/-- The code of a class. -/
def classCode : Density → BitVec 3
  | .d32M => 0
  | .d64M => 1
  | .d128M => 2
  | .d256M => 3
  | .d512M => 4

/-- The five classes in code order. -/
def allClasses : List Density := [.d32M, .d64M, .d128M, .d256M, .d512M]

/-! ### The record (40 R111) -/

/-- The ParameterSet record, 16 bits a field (R111). The flags BUS16 and CLK_200 have 1 bit. -/
structure ParameterSet where
  bus16 : Bool
  clk200 : Bool
  nsamp : Half
  rfcMin : Half
  rfcNomX32 : Half
  emrMr : Half
  postCkeX1024 : Half
  idleAfterResetX32 : Half
  zqinitX32 : Half
  preCkeX1024 : Half
  minStableClockX1 : Half
  mr3 : Half
  tRasMin : Half
  tRasMax : Half
  tFaw : Half
  wr2pre : Half
  tRc : Half
  wr2rd : Half
  tRp : Half
  tRcd : Half
  tRrd : Half
  tCcd : Half
  tCke : Half
  tCkesr : Half
  tCksre : Half
  tCksrx : Half
  ckpd : List Half
  tXsr : Half
  zqShortNop : Half
  zqLongNop : Half
  zqResetNop : Half
  bankB0 : Half
  bankB1 : Half
  bankB2 : Half
  colB8 : Half
  colB9 : Half
  colB10 : Half
  colB11 : Half
  rowB0 : Half
  rowB1 : Half
  rowB2_10 : Half
  rowB11 : Half
  rowB12 : Half
  rowB13 : Half
  rowB14 : Half
  rowB15 : Half
deriving DecidableEq, Repr, Inhabited

/-! ### Values that differ inside the common branch -/

/-- (RFC_MIN, T_RFC_NOM_X32) of a class (R114). -/
def romRefresh : Density → Half × Half
  | .d32M => (0x1a, 0x30)
  | .d64M => (0x14, 0x26)
  | .d128M => (0x14, 0x26)
  | .d256M => (0x14, 0x13)
  | .d512M => (0x14, 0x13)

/-- (BANK_B0, BANK_B1, BANK_B2) of a class (R115). -/
def romBank : Density → Half × Half × Half
  | .d32M => (6, 6, 0x1f)
  | .d64M => (7, 7, 0x1f)
  | .d128M => (7, 7, 7)
  | .d256M => (7, 7, 7)
  | .d512M => (8, 8, 8)

/-- A row field of 512M: 7 where `CFG.ROW512_PAIR` names the field, else CFG's open value (R116). -/
def row512 (cfg : Cfg) (f : RowField) (v : Half) : Half :=
  if cfg.rom.row512First = f ∨ cfg.rom.row512Second = f then 7 else v

/-- CFG's open row and column values of a class, with R116's given ones in their places. -/
def romRowCol (cfg : Cfg) (d : Density) : RomOpenClass :=
  let o := forClass cfg.rom.perClass d
  match d with
  | .d32M => o
  | .d64M => o
  | .d128M => { o with rowB13 := 0xf }
  | .d256M => { o with rowB13 := 6 }
  | .d512M =>
    { o with
      rowB0 := row512 cfg .b0 o.rowB0
      rowB1 := row512 cfg .b1 o.rowB1
      rowB2_10 := row512 cfg .b2_10 o.rowB2_10
      rowB11 := row512 cfg .b11 o.rowB11
      rowB12 := row512 cfg .b12 o.rowB12
      rowB13 := row512 cfg .b13 o.rowB13
      rowB14 := row512 cfg .b14 o.rowB14
      rowB15 := row512 cfg .b15 o.rowB15 }

/-! ### ROM(d) -/

/-- The row of class 32M (R112). -/
def rom32M (cfg : Cfg) : ParameterSet :=
  let b := cfg.rom.branch.b32M
  let rc := romRowCol cfg .d32M
  { bus16 := true, clk200 := true, nsamp := 2
    rfcMin := (romRefresh .d32M).1, rfcNomX32 := (romRefresh .d32M).2
    emrMr := 0x83, postCkeX1024 := 0x28, idleAfterResetX32 := 6, zqinitX32 := 7
    preCkeX1024 := b.preCkeX1024, minStableClockX1 := b.minStableClockX1, mr3 := b.mr3
    tRasMin := 8, tRasMax := 0xd, tFaw := 0xa, wr2pre := 7, tRc := 0xd, wr2rd := 7, tRp := 5, tRcd := 4
    tRrd := b.tRrd, tCcd := b.tCcd, tCke := b.tCke, tCkesr := b.tCkesr, tCksre := b.tCksre, tCksrx := b.tCksrx
    ckpd := b.ckpd
    tXsr := 0x1c, zqShortNop := 0x12, zqLongNop := 0x48, zqResetNop := 0xa
    bankB0 := (romBank .d32M).1, bankB1 := (romBank .d32M).2.1, bankB2 := (romBank .d32M).2.2
    colB8 := rc.colB8, colB9 := rc.colB9, colB10 := rc.colB10, colB11 := rc.colB11
    rowB0 := rc.rowB0, rowB1 := rc.rowB1, rowB2_10 := rc.rowB2_10, rowB11 := rc.rowB11
    rowB12 := rc.rowB12, rowB13 := rc.rowB13, rowB14 := rc.rowB14, rowB15 := rc.rowB15 }

/-- The row of a class of the common branch (R113 to R116). -/
def romCommon (cfg : Cfg) (d : Density) : ParameterSet :=
  let b := cfg.rom.branch.common
  let rc := romRowCol cfg d
  { bus16 := false, clk200 := false, nsamp := 4
    rfcMin := (romRefresh d).1, rfcNomX32 := (romRefresh d).2
    emrMr := 0x63, postCkeX1024 := 0x1f, idleAfterResetX32 := 4, zqinitX32 := 5
    preCkeX1024 := b.preCkeX1024, minStableClockX1 := b.minStableClockX1, mr3 := b.mr3
    tRasMin := 7, tRasMax := 0xa, tFaw := 8, wr2pre := 6, tRc := 0xa, wr2rd := 6, tRp := 4, tRcd := 3
    tRrd := b.tRrd, tCcd := b.tCcd, tCke := b.tCke, tCkesr := b.tCkesr, tCksre := b.tCksre, tCksrx := b.tCksrx
    ckpd := b.ckpd
    tXsr := 0x16, zqShortNop := 0xf, zqLongNop := 0x39, zqResetNop := 0x8
    bankB0 := (romBank d).1, bankB1 := (romBank d).2.1, bankB2 := (romBank d).2.2
    colB8 := rc.colB8, colB9 := rc.colB9, colB10 := rc.colB10, colB11 := rc.colB11
    rowB0 := rc.rowB0, rowB1 := rc.rowB1, rowB2_10 := rc.rowB2_10, rowB11 := rc.rowB11
    rowB12 := rc.rowB12, rowB13 := rc.rowB13, rowB14 := rc.rowB14, rowB15 := rc.rowB15 }

/-- `ROM(d)`: total, side-effect-free (R110, R117). -/
def rom (cfg : Cfg) : Density → ParameterSet
  | .d32M => rom32M cfg
  | .d64M => romCommon cfg .d64M
  | .d128M => romCommon cfg .d128M
  | .d256M => romCommon cfg .d256M
  | .d512M => romCommon cfg .d512M

/-- The number of samples of an attempt, `n = ROM(dens).NSAMP` (43 R200). -/
def nsamp (cfg : Cfg) (d : Density) : Nat := (rom cfg d).nsamp.toNat

end Sys2Proof.Machine
end

