-- ==== Sys2Proof/Machine/Flags.lean ====
section
/-! DEFINITION. The convergence predicate, the flags and the outputs (spec 43 R203, R204; 10 R26, R27, R32; 30 R90; 20 R52,
R57; 60 R240). -/

namespace Sys2Proof.Machine

open Sys2Proof.Config

/-! ### The convergence predicate -/

/-- `ATTEMPT_MAX` (00 R7). -/
def attemptMax : Nat := 100

/-- `TOL` (00 R7). -/
def tolerance : Nat := 4

/-- `absdiff(a, b)` (43 R203): EXACT is the exact difference of unsigned numbers, WRAP_I32 the magnitude of the wrapped
difference read as signed. -/
def absdiff : DiffMode → Word → Word → Nat
  | .exact, a, b => if b.toNat ≤ a.toNat then a.toNat - b.toNat else b.toNat - a.toNat
  | .wrapI32, a, b => (a - b).toInt.natAbs

/-- Every pair of the list differs by at most the tolerance. -/
def allPairsClose (m : DiffMode) : List Word → Bool
  | [] => true
  | x :: xs => xs.all (fun y => decide (absdiff m x y ≤ tolerance)) && allPairsClose m xs

/-- The samples in slot order. -/
def sampleList (S : Samples) : List Word := [S.s0, S.s1, S.s2, S.s3]

/-- `pred(S, n)` (43 R204): bit 7 of `S[0]` is clear and every pair of the first `n` samples is close. -/
def pred (m : DiffMode) (S : Samples) (n : Nat) : Bool :=
  !S.s0.getLsbD 7 && allPairsClose m ((sampleList S).take n)

/-! ### Flags and the status word -/

/-- `busy = (state ∉ {IDLE, DONE, ERROR})` (10 R27); an unused code is busy. -/
def busy (s : State) : Bool :=
  !(s.state == stateCode .idle || s.state == stateCode .done || s.state == stateCode .error)

/-- One bit as a word. -/
def bitWord (b : Bool) : Word := if b then 1 else 0

/-- The status word (30 R90). -/
def statusWord (s : State) : Word :=
  bitWord (busy s)
    ||| bitWord s.done <<< 1
    ||| bitWord s.converged <<< 2
    ||| bitWord s.err <<< 3
    ||| s.attempt.setWidth 32 <<< 4
    ||| (if s.err then s.errState else s.state).setWidth 32 <<< 12
    ||| s.dens.setWidth 32 <<< 16
    ||| s.errCode.setWidth 32 <<< 20
    ||| (if s.err then s.errStep else s.step).setWidth 32 <<< 24

/-- The host outputs (10 R32). -/
structure HostOutputs where
  busy : Bool
  done : Bool
  converged : Bool
  err : Bool
  errCode : BitVec 4
  attempts : BitVec 7
  status : Word
deriving DecidableEq, Repr

/-- What the host sees of a state (10 R32). -/
def hostOutputs (s : State) : HostOutputs :=
  { busy := busy s, done := s.done, converged := s.converged, err := s.err, errCode := s.errCode, attempts := s.attempt,
    status := statusWord s }

/-! ### The bus master port and the delay port -/

/-- The block's request outputs in one step (20 R52, R57; 60 R240). A value the spec does not give (every signal of a
port with no request, `m_wdata` of a read) is absent. -/
structure PortOutputs where
  mReq : Bool
  mWe : Option Bool
  mAddr : Option Word
  mWdata : Option Word
  mAttr : Option Nat
  dReq : Bool
  dNs : Option Word
deriving DecidableEq, Repr

/-- Both ports quiet. -/
def noRequest : PortOutputs :=
  { mReq := false, mWe := none, mAddr := none, mWdata := none, mAttr := none, dReq := false, dNs := none }

/-- The request outputs in a state under `rst` (20 R52, R57): both requests are 0 while `rst = 1` (70 R260). DESIGN CHOICE:
with `seq` at an unused code no request is up (log 24). -/
def portOutputs (rst : Bool) (s : State) : PortOutputs :=
  if rst then noRequest
  else
    match inFlight s with
    | some (.write a v) =>
      { noRequest with mReq := true, mWe := some true, mAddr := some a, mWdata := some v
                       mAttr := some s.cfg.platform.privAttr }
    | some (.read a) =>
      { noRequest with mReq := true, mWe := some false, mAddr := some a, mAttr := some s.cfg.platform.privAttr }
    | none => if seqOf s.seq = some .dly then { noRequest with dReq := true, dNs := some (cmdImm s.cur) } else noRequest

end Sys2Proof.Machine
end

