-- ==== Sys2Proof/Machine/Ops.lean ====
section
/-! DEFINITION. The named operations over the state: the pins, the trace, moving the program counter, taking an error
(spec 60 R233) and leaving it by reset (70 R260). -/

namespace Sys2Proof.Machine

open Sys2Proof.Config

/-! ### Pins -/

/-- The pins of this step: the first listed sample, or any value where none is listed (log 3). -/
def pinsNow (s : State) : Pins :=
  match s.pins with
  | p :: _ => p
  | [] => freePins s.tick

/-- The sample of this step is past. -/
def takePins (s : State) : State :=
  { s with pins := s.pins.tail, tick := s.tick + 1 }

/-- All input pins low. -/
def quietPins : Pins :=
  { rst := false, start := false, density := 0, mAck := false, mRdata := 0, dDone := false }

/-! ### Trace -/

/-- `emit(e)` (00 R10). -/
def emit (e : Event) (s : State) : State :=
  { s with trace := s.trace ++ [e] }

/-- The value of the last completed write to an address in a trace, if one was made: what the block knows of the targets
(no read depends on it, 20 R55). -/
def lastWrite : List Event → Word → Option Word
  | [], _ => none
  | .write b v :: es, a => (lastWrite es a).or (if b = a then some v else none)
  | .read _ _ :: es, a => lastWrite es a
  | .delay _ :: es, a => lastWrite es a

/-! ### The program counter -/

/-- `cur <- c` (42 R150). -/
def setCur (c : Cmd) (s : State) : State := { s with cur := c }

/-- `step + 1`; at 255, which the spec says never happens, any value (10 R22; log 8). -/
def nextStep (s : State) : BitVec 8 :=
  if s.step = 255 then freeStep s.tick else s.step + 1

/-- `seq <- SQ_IDLE; step <- step + 1`: a command other than END has completed (10 R22, 41 R130 to R133). -/
def advance (s : State) : State :=
  { s with seq := seqCode .idle, step := nextStep s }

/-- `state <- q; step <- 0` (10 R22). -/
def enter (q : FsmState) (s : State) : State :=
  { s with state := stateCode q, step := 0 }

/-- `attempt + 1`; at 127, which no run reaches, any value (10 R25; log 8). -/
def nextAttempt (s : State) : BitVec 7 :=
  if s.attempt = 127 then freeAttempt s.tick else s.attempt + 1

/-- Entry into TRN_PULSE counts an attempt (43 R201). -/
def enterTrnPulse (s : State) : State :=
  { enter .trnPulse s with attempt := nextAttempt s }

/-! ### Taking an error, and reset -/

/-- An access in flight is withdrawn: no event, and whether its target performed it is not known (70 R262, 60 R235). -/
def withdraw (s : State) : State :=
  match inFlight s with
  | some r => { s with withdrawn := s.withdrawn ++ [⟨r, freePerformed s.tick⟩] }
  | none => s

/-- `raise Err(code)` (60 R233). -/
def raiseErr (e : ErrCode) (s : State) : State :=
  { withdraw s with
    err := true
    errCode := errCodeBits e
    errState := s.state
    errStep := s.step
    state := stateCode .error
    step := 0
    seq := seqCode .idle }

/-- A clock edge with `rst = 1`: every register of the block takes its reset value, a request in flight is withdrawn
(70 R260, R262). It is the only return from ERROR (60 R237). CFG, the segment storage and the past (the trace) are no
state of the block and stay (70 R261, 40 R119). -/
def resetEdge (s : State) : State :=
  { State.reset with
    cfg := s.cfg
    segPatch := s.segPatch
    pins := s.pins
    tick := s.tick
    trace := s.trace
    withdrawn := (withdraw s).withdrawn }

end Sys2Proof.Machine
end

