-- ==== Sys2Proof/Machine/Phases.lean ====
section
/-! DEFINITION. The FSM's own actions: start (spec 42 R152, R153), END (41 R134) and TRN_EVAL (43 R206 to R208). -/

namespace Sys2Proof.Machine

open Sys2Proof.Config

/-- A start request with a legal class is accepted (42 R152). -/
def acceptStart (density : BitVec 3) (s : State) : State :=
  enter .entryRst { s with dens := density, attempt := 0, converged := false }

/-- IDLE: wait for `start`, accept a legal class, take ILLEGAL_DENSITY for an illegal one (42 R152, R153; 60 R232). -/
def idleStep (p : Pins) (s : State) : State :=
  if p.start then
    if (classOf p.density).isSome then acceptStart p.density s
    else raiseErr .illegalDensity { s with dens := p.density }
  else s

/-- PORT_EN has ended: `state <- DONE; step <- 0; done <- 1` (43 R211). -/
def finish (s : State) : State := { enter .done s with done := true }

/-- The predicate holds: `converged <- 1; state <- PORT_EN; step <- 0` (43 R206). -/
def converge (s : State) : State := { enter .portEn s with converged := true }

/-- `state <- next(state); step <- 0` (41 R134's table), with the attempt counted on entry to TRN_PULSE (43 R196, R201)
and `done` set when PORT_EN ends (43 R211). -/
def endSegment (s : State) : Result :=
  match stateOf s.state with
  | some .entryRst => .next (enter .clkSel s)
  | some .clkSel => .next (enter .phyCfg s)
  | some .phyCfg => .next (enter .ctrlCfg s)
  | some .ctrlCfg => .next (enter .trnHs s)
  | some .trnHs => .next (enterTrnPulse s)
  | some .trnPulse => .next (enter .trnSample s)
  | some .trnSample => .next (enter .trnEval s)
  | some .portEn => .next (finish s)
  | some .idle => .fault .endOutsideSegment
  | some .trnEval => .fault .endOutsideSegment
  | some .done => .fault .endOutsideSegment
  | some .error => .fault .endOutsideSegment
  | none => .fault .endOutsideSegment

/-- END (41 R134): it completes in the step that fetches it. -/
def execEnd (s : State) : Result :=
  endSegment (setCur (encode .endSeg) s)

/-- TRN_EVAL (43 R206, R207, R208). -/
def trnEval (s : State) : Result :=
  match classOf s.dens with
  | none => .fault .classNotLookedUp
  | some d =>
    if pred s.cfg.trn.diffMode s.S (nsamp s.cfg d) then .next (converge s)
    else if s.attempt.toNat < attemptMax then .next (enterTrnPulse s)
    else if s.attempt.toNat = attemptMax then .next (enter .portEn s)
    else .fault .attemptOverrun

end Sys2Proof.Machine
end

