-- ==== Sys2Proof/Machine/Sequencer.lean ====
section
/-! DEFINITION. register_write_sequencer: the meanings of WR, RD, RMW and DLY (spec 41_sequencer_commands.md R130 to R133).
Issue and completion are separate steps (R135): a meaning issues its command, `complete` completes it. -/

namespace Sys2Proof.Machine

open Sys2Proof.Config

/-- A command is in flight: `cur` is set to it and `seq` to its sub-state (R135). -/
def issued (i : Instr) (q : SeqState) (s : State) : State :=
  { s with cur := encode i, seq := seqCode q }

/-- Issue a legal command (R135). One whose word is not legal is not issued; it
takes ILLEGAL_CMD, with no access (R136). -/
def issue (i : Instr) (q : SeqState) (s : State) : Result :=
  if i.wf then .next (issued i q s)
  else .next (raiseErr .illegalCmd (setCur (encode i) s))

/-- WR (R130): the write is issued. -/
def execWr (sp : Space) (off : Off) (imm : Word) (s : State) : Result :=
  issue (.wr sp off imm) .wr s

/-- RD (R131): the read is issued. -/
def execRd (slot : BitVec 2) (sp : Space) (off : Off) (s : State) : Result :=
  issue (.rd slot sp off) .rd s

/-- RMW (R132): the read half is issued. -/
def execRmw (sp : Space) (off : Off) (lsb : BitVec 5) (wm1 : BitVec 3) (imm : Word) (s : State) : Result :=
  issue (.rmw sp off lsb wm1 imm) .rmwRd s

/-- DLY (R133): the delay is requested. -/
def execDly (ns : Word) (s : State) : Result :=
  issue (.dly ns) .dly s

/-! ### Completion -/

/-- The end of a WR: `emit(W(addr, imm))`, next command (R130). -/
def completeWr (s : State) : State :=
  advance (emit (.write (curAddr s) (cmdImm s.cur)) s)

/-- The end of an RD answered `v`: `S[k] <- v`, `emit(R(addr, v))`, next command (R131). -/
def completeRd (v : Word) (s : State) : State :=
  advance (emit (.read (curAddr s) v) { s with S := writeSample s.S (cmdSlot s.cur) v })

/-- The end of an RMW's read half, answered `v`: `rmw_old <- v`, `emit(R(addr, v))`, and the write half (R132). -/
def completeRmwRead (v : Word) (s : State) : State :=
  { emit (.read (curAddr s) v) s with rmwOld := v, seq := seqCode .rmwWr }

/-- The end of an RMW's write half: `emit(W(addr, new))`, next command (R132). -/
def completeRmwWrite (s : State) : State :=
  advance (emit (.write (curAddr s) (curMerged s)) s)

/-- The end of a DLY: `emit(D(ns))`, next command (R133). -/
def completeDly (s : State) : State :=
  advance (emit (.delay (cmdImm s.cur)) s)

/-- While a command is in flight the only thing that happens is its completion, on `m_ack` or `d_done`; without it the
block waits (R135; 20 R56, R57). DESIGN CHOICE: whatever answer is sampled is the answer to the request in flight, also
where it may be the late answer to a request withdrawn before (70 R262, log 23). -/
def complete (p : Pins) (s : State) : Result :=
  match seqOf s.seq with
  | some .wr => .next (if p.mAck then completeWr s else s)
  | some .rd => .next (if p.mAck then completeRd p.mRdata s else s)
  | some .rmwRd => .next (if p.mAck then completeRmwRead p.mRdata s else s)
  | some .rmwWr => .next (if p.mAck then completeRmwWrite s else s)
  | some .dly => .next (if p.dDone then completeDly s else s)
  | some .idle => .next s
  | none => .fault .seqUnused

end Sys2Proof.Machine
end

