-- ==== Sys2Proof/Machine/Dispatch.lean ====
section
/-! DEFINITION. One arm per command of spec/opcode_table.json. -/

namespace Sys2Proof.Machine

def exec (i : Instr) (s : State) : Host.Outcome State Fault Refusal :=
  match i with
  | .wr sp off imm => Sys2Proof.Machine.execWr sp off imm s
  | .rd slot sp off => Sys2Proof.Machine.execRd slot sp off s
  | .rmw sp off lsb wm1 imm => Sys2Proof.Machine.execRmw sp off lsb wm1 imm s
  | .dly ns => Sys2Proof.Machine.execDly ns s
  | .endSeg => Sys2Proof.Machine.execEnd s

end Sys2Proof.Machine
end

