-- ==== Sys2Proof/Machine/Segments.lean ====
section
/-! DEFINITION. The command segments Seg(state, d, CFG) (spec 42_bringup_phases.md R151 to R174, 43_phy_training_engine.md
R190, R202, R205, R210). -/

namespace Sys2Proof.Machine

open Sys2Proof.Config

/-! ### Pseudo-commands (30 R92) -/

/-- `CLR <SP>+<off>`. -/
def pseudoClr (sp : Space) (off : Off) : List Instr := [.wr sp off 0]

/-- `PULSE <SP>+<off>, <on>, <off_v>, <ns>`. -/
def pseudoPulse (sp : Space) (off : Off) (on offVal ns : Word) : List Instr :=
  [.wr sp off on, .dly ns, .wr sp off offVal]

/-- `PULSEH <SP>+<off>, <on>, <off_v>, <ns>`. -/
def pseudoPulseH (sp : Space) (off : Off) (on offVal ns : Word) : List Instr :=
  pseudoPulse sp off on offVal ns ++ [.dly ns]

/-- `SEL <SP>+<off>[<hi>:<lo>], <v>`. -/
def pseudoSel (sp : Space) (off : Off) (lsb : BitVec 5) (wm1 : BitVec 3) (v : Word) : List Instr :=
  [.rmw sp off lsb wm1 v]

/-! ### ENTRY_RST, CLK_SEL (42 R154, R155) -/

/-- ENTRY_RST: assert, wait, de-assert (R154). -/
def entryRstSeg (cfg : Cfg) : List Instr :=
  [.wr .sys cfg.clkRst.rstOff cfg.clkRst.rstAssertVal,
    .dly cfg.clkRst.tRstPulse,
    .wr .sys cfg.clkRst.rstOff cfg.clkRst.rstDeassertVal,
    .endSeg]

/-- The clock parent of a class (R155). -/
def clkParent (cfg : Cfg) (d : Density) : Word :=
  if (rom cfg d).clk200 then cfg.clkRst.clkParent200 else cfg.clkRst.clkParent156

/-- CLK_SEL: the two-bit field write (R155). -/
def clkSelSeg (cfg : Cfg) (d : Density) : List Instr :=
  [.rmw .clk cfg.clkRst.clkSelOff cfg.clkRst.clkSelLsb 1 (clkParent cfg d), .endSeg]

/-! ### PHY_CFG (42 R156, R157) -/

/-- A write of the PHY static list. -/
def phyWr (w : RegWrite) : Instr := .wr .phy w.off w.val

/-- The four registers of a nibble group, in the order PD_DS, PD_ODT, PU_DS, PU_ODT. -/
def nibbleWrites (g : NibbleGroup) : List Instr :=
  [phyWr g.pdDs, phyWr g.pdOdt, phyWr g.puDs, phyWr g.puOdt]

/-- A lane's low group, then its high group. -/
def laneWrites (l : ByteLane) : List Instr :=
  nibbleWrites l.low ++ nibbleWrites l.high

/-- Rows 1 to 25 of R157. -/
def phyStaticWrites (p : PhyStatic) : List Instr :=
  [phyWr p.phyType, phyWr p.phyRl, phyWr p.phyWl, phyWr p.pllFbdiv, phyWr p.pllOut, phyWr p.pllDiv,
    phyWr p.cmdDs, phyWr p.clkDs, phyWr p.pullup] ++ laneWrites p.laneA ++ laneWrites p.laneB

/-- Row 26 of R157, for class 32M only: `PHY+0x000`. -/
def phyWidthWrite (cfg : Cfg) (d : Density) : List Instr :=
  if (rom cfg d).bus16 then [.wr .phy 0x000 cfg.phy.phyW16Val] else []

/-- PHY_CFG (R156). -/
def phyCfgSeg (cfg : Cfg) (d : Density) : List Instr :=
  phyStaticWrites cfg.phy ++ phyWidthWrite cfg d ++ [.endSeg]

/-! ### CTRL_CFG (42 R158 to R174) -/

/-- RDPRI of R173. -/
def rdPri : Port → Word
  | 0 => 0x3ff
  | 1 => 0x20
  | 2 => 0x0
  | 3 => 0x4

/-- WRPRI of R173. -/
def wrPri : Port → Word
  | 0 => 0x3ff
  | 1 => 0xff
  | 2 => 0x3f
  | 3 => 0x5f

/-- The fields that `fld` puts into a register, with their values (R165 to R173); none for a register whose word is a CFG
value or 0. -/
def packedFields (cfg : Cfg) (d : Density) : RegName → List (FieldName × Word)
  | .rfshtmg => [(.rfcMin, (rom cfg d).rfcMin.setWidth 32), (.rfcNomX32, (rom cfg d).rfcNomX32.setWidth 32)]
  | .init0 =>
    [(.preCkeX1024, (rom cfg d).preCkeX1024.setWidth 32), (.postCkeX1024, (rom cfg d).postCkeX1024.setWidth 32)]
  | .init2 =>
    [(.minStableClockX1, (rom cfg d).minStableClockX1.setWidth 32),
      (.idleAfterResetX32, (rom cfg d).idleAfterResetX32.setWidth 32)]
  | .init5 => [(.devZqinitX32, (rom cfg d).zqinitX32.setWidth 32)]
  | .dramtmg0 =>
    [(.tRasMin, (rom cfg d).tRasMin.setWidth 32), (.tRasMax, (rom cfg d).tRasMax.setWidth 32),
      (.tFaw, (rom cfg d).tFaw.setWidth 32), (.wr2pre, (rom cfg d).wr2pre.setWidth 32)]
  | .dramtmg1 => [(.tRc, (rom cfg d).tRc.setWidth 32)]
  | .dramtmg2 => [(.wr2rd, (rom cfg d).wr2rd.setWidth 32)]
  | .dramtmg4 =>
    [(.tRp, (rom cfg d).tRp.setWidth 32), (.tRrd, (rom cfg d).tRrd.setWidth 32),
      (.tCcd, (rom cfg d).tCcd.setWidth 32), (.tRcd, (rom cfg d).tRcd.setWidth 32)]
  | .dramtmg14 => [(.tXsr, (rom cfg d).tXsr.setWidth 32)]
  | .zqctl0 =>
    [(.zqShortNop, (rom cfg d).zqShortNop.setWidth 32), (.zqLongNop, (rom cfg d).zqLongNop.setWidth 32),
      (.disSrxZqcl, 1)]
  | .zqctl1 => [(.zqResetNop, (rom cfg d).zqResetNop.setWidth 32)]
  | .addrmap1 =>
    [(.bankB0, (rom cfg d).bankB0.setWidth 32), (.bankB1, (rom cfg d).bankB1.setWidth 32),
      (.bankB2, (rom cfg d).bankB2.setWidth 32)]
  | .addrmap3 => [(.colB8, (rom cfg d).colB8.setWidth 32), (.colB9, (rom cfg d).colB9.setWidth 32)]
  | .addrmap4 => [(.colB10, (rom cfg d).colB10.setWidth 32), (.colB11, (rom cfg d).colB11.setWidth 32)]
  | .addrmap5 =>
    [(.rowB0, (rom cfg d).rowB0.setWidth 32), (.rowB1, (rom cfg d).rowB1.setWidth 32),
      (.rowB2_10, (rom cfg d).rowB2_10.setWidth 32), (.rowB11, (rom cfg d).rowB11.setWidth 32)]
  | .addrmap6 =>
    [(.rowB12, (rom cfg d).rowB12.setWidth 32), (.rowB13, (rom cfg d).rowB13.setWidth 32),
      (.rowB14, (rom cfg d).rowB14.setWidth 32), (.rowB15, (rom cfg d).rowB15.setWidth 32)]
  | .addrmap0 => [(.csBit0, cfg.prog.csBit0.setWidth 32)]
  | .sched => [(.lprNumEntries, 0x18)]
  | .pcfgr n => [(.rdPortPriority, rdPri n), (.rdPortAgingEn, 1)]
  | .pcfgw n => [(.wrPortPriority, wrPri n), (.wrPortAgingEn, 1)]
  | _ => []

/-- The OR of `fld` constants. -/
def orFields (cfg : Cfg) : List (FieldName × Word) → Word
  | [] => 0
  | (f, v) :: fs => fld cfg f v ||| orFields cfg fs

/-- The packed part of a register's word. -/
def packedWord (cfg : Cfg) (d : Density) (r : RegName) : Word :=
  orFields cfg (packedFields cfg d r)

/-- `WR CTRL+r, v`. -/
def ctrlWr (cfg : Cfg) (r : RegName) (v : Word) : Instr := .wr .ctrl (ctrlOff cfg r) v

/-- `WR CTRL+r` with the register's packed fields alone. -/
def ctrlWrPacked (cfg : Cfg) (d : Density) (r : RegName) : Instr := ctrlWr cfg r (packedWord cfg d r)

/-- `WR CTRL+r` with the register's packed fields and a CFG word. -/
def ctrlWrPackedOr (cfg : Cfg) (d : Density) (r : RegName) (extra : Word) : Instr :=
  ctrlWr cfg r (packedWord cfg d r ||| extra)

/-- The master register's word (R159). -/
def mstrWord (cfg : Cfg) (d : Density) : Word :=
  cfg.prog.mstrLpddr2 ||| (if (rom cfg d).bus16 then cfg.prog.mstrBus16 else 0) ||| cfg.prog.mstrBurstRdwr
    ||| cfg.prog.mstrActiveRanks

/-- Steps 1 to 5 (R159 to R163). -/
def ctrlSteps1to5 (cfg : Cfg) (d : Density) : List Instr :=
  [ctrlWr cfg .mstr (mstrWord cfg d),
    ctrlWr cfg .mrctrl0 cfg.prog.mrctrl0Val,
    ctrlWr cfg .mrctrl1 0,
    ctrlWr cfg .derateen cfg.prog.derateenVal,
    ctrlWr cfg .derateint cfg.prog.derateintVal,
    ctrlWr cfg .pwrtmg cfg.prog.pwrtmgVal,
    ctrlWr cfg .pwrctl cfg.prog.pwrctlVal,
    ctrlWr cfg .hwlpctl cfg.prog.hwlpctlVal,
    ctrlWr cfg .rfshctl0 cfg.prog.rfshctl0Val,
    .wr .ctrl cfg.prog.rfshAux0 0,
    .wr .ctrl cfg.prog.rfshAux1 0,
    .wr .ctrl cfg.prog.rfshAux2 0]

/-- Step 6, the density-specific timing block: the same 17 registers for both branches (R164 to R168). -/
def ctrlStep6 (cfg : Cfg) (d : Density) : List Instr :=
  [ctrlWrPacked cfg d .rfshtmg,
    ctrlWrPacked cfg d .init0,
    ctrlWr cfg .init1 (forBranch cfg.prog.branch d).init1Val,
    ctrlWrPacked cfg d .init2,
    ctrlWr cfg .init3 ((rom cfg d).emrMr.setWidth 32),
    ctrlWr cfg .init4 (forBranch cfg.prog.branch d).init4Val,
    ctrlWrPackedOr cfg d .init5 (forBranch cfg.prog.branch d).init5Extra,
    ctrlWr cfg .rankctl (forBranch cfg.prog.branch d).rankctlVal,
    ctrlWrPacked cfg d .dramtmg0,
    ctrlWrPackedOr cfg d .dramtmg1 (forBranch cfg.prog.branch d).tmg1Extra,
    ctrlWrPackedOr cfg d .dramtmg2 (forBranch cfg.prog.branch d).tmg2Extra,
    ctrlWr cfg .dramtmg3 (forBranch cfg.prog.branch d).tmg3Val,
    ctrlWrPacked cfg d .dramtmg4,
    ctrlWr cfg .dramtmg5 (forBranch cfg.prog.branch d).tmg5Val,
    ctrlWr cfg .dramtmg6 (forBranch cfg.prog.branch d).tmg6Val,
    ctrlWr cfg .dramtmg7 (forBranch cfg.prog.branch d).tmg7Val,
    ctrlWrPacked cfg d .dramtmg14]

/-- Step 7, ZQ calibration and DFI (R169, R170). -/
def ctrlStep7 (cfg : Cfg) (d : Density) : List Instr :=
  [ctrlWrPackedOr cfg d .zqctl0 cfg.prog.zqctl0Extra,
    ctrlWrPackedOr cfg d .zqctl1 cfg.prog.zqctl1Extra,
    ctrlWr cfg .dfitmg0 cfg.prog.dfitmg0Val,
    ctrlWr cfg .dfitmg1 cfg.prog.dfitmg1Val,
    ctrlWr cfg .dfilpcfg0 cfg.prog.dfilpcfg0Val,
    ctrlWr cfg .dfiupd0 cfg.prog.dfiupd0Val,
    .wr .ctrl (refOff cfg cfg.prog.dfiPhyupdReg) cfg.prog.dfiPhyupdVal,
    ctrlWr cfg .dfimisc 0]

/-- Step 8, the address map, the chip-select mask last (R171). -/
def ctrlStep8 (cfg : Cfg) (d : Density) : List Instr :=
  [ctrlWrPacked cfg d .addrmap1,
    ctrlWrPackedOr cfg d .addrmap3 (forClass cfg.prog.addrmap3Extra d),
    ctrlWrPacked cfg d .addrmap4,
    ctrlWrPacked cfg d .addrmap5,
    ctrlWrPacked cfg d .addrmap6,
    ctrlWrPacked cfg d .addrmap0]

/-- Step 9, ODT and scheduler (R172). -/
def ctrlStep9 (cfg : Cfg) (d : Density) : List Instr :=
  [ctrlWr cfg .odtcfg cfg.prog.odtcfgVal,
    ctrlWr cfg .odtmap 0,
    ctrlWrPackedOr cfg d .sched cfg.prog.schedBase] ++ cfg.prog.schedAux.map fun o => Instr.wr .ctrl o 0

/-- Step 10, port priorities: four reads, then four writes (R173). -/
def ctrlStep10Ports (cfg : Cfg) (d : Density) : List Instr :=
  (allPorts.map fun n => ctrlWrPacked cfg d (.pcfgr n)) ++ (allPorts.map fun n => ctrlWrPacked cfg d (.pcfgw n))

/-- Step 10, QoS and starvation (R174). -/
def ctrlStep10Qos (cfg : Cfg) : List Instr :=
  (allPorts.map fun n => ctrlWr cfg (.pcfgqos0 n) cfg.prog.qosMap) ++
    [ctrlWr cfg .perfhpr1 cfg.prog.perfhpr1Val, ctrlWr cfg .perflpr1 cfg.prog.perflpr1Val,
      ctrlWr cfg .perfwr1 cfg.prog.perfwr1Val] ++
    cfg.prog.varpri.map fun r => Instr.wr .ctrl (refOff cfg r) 0

/-- The writes of CTRL_CFG, steps 1 to 10 in order (R158). -/
def ctrlCfgWrites (cfg : Cfg) (d : Density) : List Instr :=
  ctrlSteps1to5 cfg d ++ ctrlStep6 cfg d ++ ctrlStep7 cfg d ++ ctrlStep8 cfg d ++ ctrlStep9 cfg d ++
    ctrlStep10Ports cfg d ++ ctrlStep10Qos cfg

/-- CTRL_CFG (R158). -/
def ctrlCfgSeg (cfg : Cfg) (d : Density) : List Instr := ctrlCfgWrites cfg d ++ [.endSeg]

/-! ### Training and port enable (43 R190, R202, R205, R210) -/

/-- TRN_HS (R190). -/
def trnHsSeg (cfg : Cfg) : List Instr :=
  [.dly cfg.trn.tHsSettle,
    .wr .sys cfg.clkRst.rstOff cfg.clkRst.rstHsVal,
    .dly cfg.trn.tHsRst,
    .wr cfg.trn.swctlSp cfg.trn.swctlOff cfg.trn.swctlHsVal,
    .dly cfg.trn.tHsSwctl,
    .wr .phy cfg.phy.pllOut.off cfg.trn.pllHsVal,
    .dly cfg.trn.tHsPll,
    .wr .phy cfg.trn.hsOdt.off cfg.trn.hsOdt.val,
    .dly cfg.trn.tHsOdt,
    .wr cfg.trn.dfiSp cfg.trn.dfiOff cfg.trn.dfiInitOnVal,
    .dly cfg.trn.tHsDfi,
    .wr cfg.trn.dfiSp cfg.trn.dfiOff cfg.trn.dfiInitOffVal,
    .endSeg]

/-- TRN_PULSE (R202). -/
def trnPulseSeg (cfg : Cfg) : List Instr :=
  [.wr cfg.trn.trnSp cfg.trn.trnOff cfg.trn.trnOnVal,
    .dly cfg.trn.tTrnHold,
    .wr cfg.trn.trnSp cfg.trn.trnOff cfg.trn.trnOffVal,
    .dly cfg.trn.tTrnHold,
    .endSeg]

/-- The four sample reads in slot order (R205). -/
def sampleReads (cfg : Cfg) : List Instr :=
  [.rd 0 .phy cfg.trn.resOff0, .rd 1 .phy cfg.trn.resOff1, .rd 2 .phy cfg.trn.resOff2, .rd 3 .phy cfg.trn.resOff3]

/-- TRN_SAMPLE: the first `n` reads (R205). -/
def trnSampleSeg (cfg : Cfg) (d : Density) : List Instr :=
  (sampleReads cfg).take (nsamp cfg d) ++ [.endSeg]

/-- The write that opens a port's gate (R210). -/
def gateWr (cfg : Cfg) (n : Port) : Instr :=
  .wr (forPort cfg.trn.portEn n).sp (forPort cfg.trn.portEn n).off (forPort cfg.trn.portEn n).val

/-- PORT_EN: the gates in port order (R210). -/
def portEnSeg (cfg : Cfg) : List Instr :=
  [gateWr cfg 0, gateWr cfg 1, gateWr cfg 2, gateWr cfg 3, .endSeg]

/-! ### Seg(state, d, CFG) (42 R151) -/

/-- The commands of a state's segment; a state that bears no commands has none. -/
def segInstrs (q : FsmState) (d : Density) (cfg : Cfg) : List Instr :=
  match q with
  | .entryRst => entryRstSeg cfg
  | .clkSel => clkSelSeg cfg d
  | .phyCfg => phyCfgSeg cfg d
  | .ctrlCfg => ctrlCfgSeg cfg d
  | .trnHs => trnHsSeg cfg
  | .trnPulse => trnPulseSeg cfg
  | .trnSample => trnSampleSeg cfg d
  | .portEn => portEnSeg cfg
  | .idle | .trnEval | .done | .error => []

/-- `Seg(state, d, CFG)`: the command words (R151). -/
def seg (q : FsmState) (d : Density) (cfg : Cfg) : List Cmd :=
  (segInstrs q d cfg).map encode

end Sys2Proof.Machine
end

