-- ==== Sys2Proof/Machine/Fsm.lean ====
section
/-! DEFINITION. The FSM step (spec 42_bringup_phases.md R150) and the fetch from the segments (R151). -/

namespace Sys2Proof.Machine

open Sys2Proof.Config

/-! ### Fetch -/

/-- The word a segment cell of the list holds at `(state, step)`, if it lists one. -/
def patchAt : List SegCell → BitVec 4 → BitVec 8 → Option Cmd
  | [], _, _ => none
  | c :: cs, st, k => if c.state = st ∧ c.step = k then some c.word else patchAt cs st k

/-- `Seg(state, dens, CFG)[step]`; an entry past the segment's end is not programmed, an all-zero word (30 R82; log 9).
None where the segment is not defined: no such state, or a class that is never looked up. -/
def segWord (s : State) : Option Cmd :=
  match stateOf s.state, classOf s.dens with
  | some q, some d => some ((seg q d s.cfg)[s.step.toNat]?.getD 0)
  | _, _ => none

/-- The word fetched at `(state, step)` (42 R150). -/
def fetch (s : State) : Option Cmd :=
  (patchAt s.segPatch s.state s.step).or (segWord s)

/-- Fetch, `cur <- c`, and execute it or take ILLEGAL_CMD (42 R150, 41 R136). -/
def fetchExec (s : State) : Result :=
  match fetch s with
  | none => .fault .classNotLookedUp
  | some c =>
    match decode c with
    | .ok i => exec i (setCur c s)
    | .error _ => .next (raiseErr .illegalCmd (setCur c s))

/-! ### The step -/

/-- What the block does in a step in which `rst` is low and no command is in flight (42 R150). -/
def fsmAct (p : Pins) (q : FsmState) (s : State) : Result :=
  match q with
  | .idle => .next (idleStep p s)
  | .trnEval => trnEval s
  | .done => .next s
  | .error => .next s
  | .entryRst => fetchExec s
  | .clkSel => fetchExec s
  | .phyCfg => fetchExec s
  | .ctrlCfg => fetchExec s
  | .trnHs => fetchExec s
  | .trnPulse => fetchExec s
  | .trnSample => fetchExec s
  | .portEn => fetchExec s

/-- A step in which `rst` is low (42 R150): the unused state codes first, then the command in flight, then the state. -/
def fsmStep (p : Pins) (s : State) : Result :=
  match stateOf s.state with
  | none => .next (raiseErr .illegalState s)
  | some q => if s.seq = seqCode .idle then fsmAct p q s else complete p s

/-- A step under given pins: reset outranks everything (70 R260). -/
def pinStep (p : Pins) (s : State) : Result :=
  if p.rst then .next (resetEdge s) else fsmStep p s

/-- A step of the machine: this step's pins are sampled, and the block acts on them. -/
def machineStep (s : State) : Result :=
  pinStep (pinsNow s) (takePins s)

/-! ### Placing a command where the next step fetches it -/

/-- The state code whose segment the placed command stands in: the present one if it bears commands, else ENTRY_RST. -/
def placeState (s : State) : BitVec 4 :=
  match stateOf s.state with
  | some q => if commandBearing q then s.state else stateCode .entryRst
  | none => stateCode .entryRst

/-- The word is put into the segment cell the next step reads; the FSM stands at that cell with no command in flight, and
the next step's pins are quiet (log 14). -/
def placeWord (s : State) (c : Cmd) : State :=
  { s with
    state := placeState s
    seq := seqCode .idle
    segPatch := ⟨placeState s, s.step, c⟩ :: s.segPatch
    pins := quietPins :: s.pins }

end Sys2Proof.Machine
end

