-- ==== Sys2Proof/Machine/Asm.lean ====
section
/-! DEFINITION. The assembler's forms and pseudo-commands (spec 30_encoding.md R91, R92) and the printed form of a command.
A CFG field name that stands for a number is the field's value in the record. -/

namespace Sys2Proof.Machine

open Sys2Proof.Config

/-- An offset as written: a number, or a register name of 20 R69. -/
inductive AsmOff where
  | num (o : Off)
  | reg (r : RegName)
deriving DecidableEq, Repr, Inhabited

/-- The forms of R91 and the pseudo-commands of R92. -/
inductive Asm where
  | wr (sp : Space) (off : AsmOff) (imm : Word)
  | rd (k : BitVec 2) (sp : Space) (off : AsmOff)
  | rmw (sp : Space) (off : AsmOff) (hi lo : Nat) (v : Word)
  | dly (ns : Word)
  | endSeg
  | clr (sp : Space) (off : AsmOff)
  | pulse (sp : Space) (off : AsmOff) (on offVal ns : Word)
  | pulseH (sp : Space) (off : AsmOff) (on offVal ns : Word)
  | sel (sp : Space) (off : AsmOff) (hi lo : Nat) (v : Word)
deriving DecidableEq, Repr, Inhabited

/-- Why the assembler rejects a form (R91). -/
inductive AsmReject where
  /-- `[hi:lo]` has no encoding: `hi < lo`, more than 8 bits, or `lo` above 31. -/
  | noSuchField
  /-- The form's fields break 30 R84. -/
  | illegal
deriving DecidableEq, Repr

/-- A register name stands for its offset (R91). -/
def asmOff (cfg : Cfg) : AsmOff → Off
  | .num o => o
  | .reg r => ctrlOff cfg r

/-- `[hi:lo]` with `lo = lsb` and `hi = lsb + wm1` (R91). -/
def asmField (hi lo : Nat) : Option (BitVec 5 × BitVec 3) :=
  if lo ≤ hi ∧ hi - lo < 8 ∧ lo < 32 then some (BitVec.ofNat 5 lo, BitVec.ofNat 3 (hi - lo)) else none

/-- A field write: the form RMW, and SEL, which expands to it (R92). -/
def asmFieldWrite (sp : Space) (off : Off) (hi lo : Nat) (v : Word) : Option (List Instr) :=
  (asmField hi lo).map fun p => pseudoSel sp off p.1 p.2 v

/-- The commands a form expands to (R92). -/
def asmExpand (cfg : Cfg) : Asm → Option (List Instr)
  | .wr sp off imm => some [.wr sp (asmOff cfg off) imm]
  | .rd k sp off => some [.rd k sp (asmOff cfg off)]
  | .rmw sp off hi lo v => asmFieldWrite sp (asmOff cfg off) hi lo v
  | .dly ns => some [.dly ns]
  | .endSeg => some [.endSeg]
  | .clr sp off => some (pseudoClr sp (asmOff cfg off))
  | .pulse sp off on offVal ns => some (pseudoPulse sp (asmOff cfg off) on offVal ns)
  | .pulseH sp off on offVal ns => some (pseudoPulseH sp (asmOff cfg off) on offVal ns)
  | .sel sp off hi lo v => asmFieldWrite sp (asmOff cfg off) hi lo v

/-- The words of a form, or why it is rejected (R91). -/
def assemble (cfg : Cfg) (a : Asm) : Except AsmReject (List Cmd) :=
  match asmExpand cfg a with
  | none => .error .noSuchField
  | some is => if is.all Instr.wf then .ok (is.map encode) else .error .illegal

/-! ### The printed form (R91) -/

/-- The name of a space. -/
def spaceText : Space → String
  | .ctrl => "CTRL"
  | .phy => "PHY"
  | .clk => "CLK"
  | .sys => "SYS"

/-- One hexadecimal digit. -/
def hexDigit (n : Nat) : Char :=
  if n < 10 then Char.ofNat (48 + n) else Char.ofNat (55 + n)

/-- The low `k` hexadecimal digits of a number, most significant first. -/
def hexDigits : Nat → Nat → List Char
  | 0, _ => []
  | k + 1, n => hexDigits k (n / 16) ++ [hexDigit (n % 16)]

/-- A number with prefix `0x` and `k` digits. -/
def hexText (k n : Nat) : String := "0x" ++ String.ofList (hexDigits k n)

/-- `<SP>+<off>`. -/
def placeText (sp : Space) (off : Off) : String := spaceText sp ++ "+" ++ hexText 4 off.toNat

/-- A command in the syntax of R91. -/
def instrText : Instr → String
  | .wr sp off imm => "WR " ++ placeText sp off ++ ", " ++ hexText 8 imm.toNat
  | .rd k sp off => "RD S" ++ toString k.toNat ++ ", " ++ placeText sp off
  | .rmw sp off lsb wm1 imm =>
    "RMW " ++ placeText sp off ++ "[" ++ toString (lsb.toNat + wm1.toNat) ++ ":" ++ toString lsb.toNat ++ "], "
      ++ hexText 8 imm.toNat
  | .dly ns => "DLY " ++ toString ns.toNat
  | .endSeg => "END"

end Sys2Proof.Machine
end

