-- ==== Sys2Proof/Machine/Validity.lean ====
section
/-! DEFINITION. When CFG is valid (spec 92_eei_decisions.md section 2, constraints and 2.7). A constraint on a bit whose
place the spec does not give (a clear enable bit, a disabled power-down) is not expressible and is left out (log 13). -/

namespace Sys2Proof.Machine

open Sys2Proof.Config

/-- `base[1:0] = 0` and `base + 0xFFFF < 2^32` (20 R51, R68). -/
def baseValid (b : Word) : Bool := b.toNat % 4 == 0 && decide (b.toNat + 0xFFFF < 2 ^ 32)

/-- 92 section 2.1. -/
def platformValid (p : Platform) : Bool :=
  baseValid p.ctrlBase && baseValid p.phyBase && baseValid p.clkBase && baseValid p.sysBase

/-- Every controller offset is a multiple of 4 (92 section 2.1). -/
def ctrlOffValid (cfg : Cfg) : Bool := allRegs.all fun r => offAligned (ctrlOff cfg r)

/-- `lsb + width <= 32` for every field (92 section 2.1). -/
def packValid (cfg : Cfg) : Bool := allFields.all fun f => decide ((packOf cfg f).lsb + (packOf cfg f).width ≤ 32)

/-- Every value fed through `fld` fits its field (92 section 2.7; 00 R11). -/
def packedValuesFit (cfg : Cfg) : Bool :=
  allClasses.all fun d => allRegs.all fun r => (packedFields cfg d r).all fun fv => fldFits cfg fv.1 fv.2

/-- 92 section 2.2. -/
def clkRstValid (c : ClkRst) : Bool :=
  offAligned c.clkSelOff && decide (c.clkSelLsb.toNat ≤ 30) && decide (c.clkParent200.toNat ≤ 3)
    && decide (c.clkParent156.toNat ≤ 3) && c.clkParent200 != c.clkParent156 && offAligned c.rstOff

/-- A lane register lies in 0x044..0x17c at a multiple of 4 (92 section 2.3). -/
def laneRegValid (w : RegWrite) : Bool :=
  decide (0x044 ≤ w.off.toNat) && decide (w.off.toNat ≤ 0x17c) && offAligned w.off

/-- The four registers of a nibble group are valid. -/
def nibbleValid (g : NibbleGroup) : Bool :=
  laneRegValid g.pdDs && laneRegValid g.pdOdt && laneRegValid g.puDs && laneRegValid g.puOdt

/-- 92 section 2.3. -/
def phyValid (p : PhyStatic) : Bool :=
  offAligned p.phyType.off && offAligned p.phyRl.off && offAligned p.phyWl.off && offAligned p.pllFbdiv.off
    && offAligned p.pllOut.off && offAligned p.pllDiv.off && offAligned p.cmdDs.off && offAligned p.clkDs.off
    && offAligned p.pullup.off && nibbleValid p.laneA.low && nibbleValid p.laneA.high && nibbleValid p.laneB.low
    && nibbleValid p.laneB.high

/-- The bits a field covers in its register. -/
def fieldMask (cfg : Cfg) (f : FieldName) : Word := fld cfg f (BitVec.ofNat 32 (2 ^ (packOf cfg f).width - 1))

/-- 92 section 2.4. -/
def progValid (cfg : Cfg) : Bool :=
  offAligned cfg.prog.rfshAux0 && offAligned cfg.prog.rfshAux1 && offAligned cfg.prog.rfshAux2
    && offAligned (refOff cfg cfg.prog.dfiPhyupdReg) && cfg.prog.schedAux.all offAligned
    && cfg.prog.varpri.all (fun r => offAligned (refOff cfg r))
    && cfg.prog.schedBase &&& fieldMask cfg .lprNumEntries == 0
    && decide (cfg.prog.schedAux.length + cfg.prog.varpri.length ≤ 193)

/-- `CFG.ROW512_PAIR` names two fields (40 R116). -/
def romOpenValid (r : RomOpen) : Bool := r.row512First != r.row512Second

/-- A word with one bit set (92 section 2.6, `TRN_ON_VAL`). -/
def oneBit (v : Word) : Bool := (List.range 32).any fun i => v == (1 : Word) <<< i

/-- The gate offset is a multiple of 4 (92 section 2.7). -/
def gateValid (g : PortGate) : Bool := offAligned g.off

/-- 92 section 2.6. -/
def trainingValid (t : Training) : Bool :=
  t.swctlSp == .ctrl && offAligned t.swctlOff && offAligned t.hsOdt.off && t.dfiSp == .ctrl && offAligned t.dfiOff
    && t.dfiInitOffVal == 0 && offAligned t.trnOff && oneBit t.trnOnVal && t.trnOffVal == 0
    && offAligned t.resOff0 && offAligned t.resOff1 && offAligned t.resOff2 && offAligned t.resOff3
    && gateValid t.portEn.p0 && gateValid t.portEn.p1 && gateValid t.portEn.p2 && gateValid t.portEn.p3

/-- A CFG is valid when every constraint of 92 section 2 holds (92 section 2.7). -/
def cfgValid (cfg : Cfg) : Bool :=
  platformValid cfg.platform && ctrlOffValid cfg && packValid cfg && packedValuesFit cfg && clkRstValid cfg.clkRst
    && phyValid cfg.phy && progValid cfg && romOpenValid cfg.rom && trainingValid cfg.trn

end Sys2Proof.Machine
end

