-- ==== Sys2Proof/Safety.lean ====
section
/-! DEFINITION. The terms the statements use: which states a run can be in, what a responsive environment does, the work
left to DONE, and the outcomes of a run (spec 10_state.md, 43 R213, R214, 60 R230, 70 R272). -/

namespace Sys2Proof.Safety

open Sys2Proof.Config Sys2Proof.Machine

/-! ### Where the FSM stands -/

/-- The state bears commands (10 R22). -/
def inSegment (s : State) : Prop := ∃ q, stateOf s.state = some q ∧ commandBearing q = true

/-- `S[k]` for a number `k`. -/
def sampleAt (S : Samples) (k : Nat) : Word := readSample S (BitVec.ofNat 2 k)

/-! ### What every step keeps -/

/-- What the flags, the counters and the codes say of each other in every state a run reaches. It names no CFG constraint
and no segment contents: it holds for every CFG and every segment storage. -/
structure StatusInv (s : State) : Prop where
  /-- `state` holds no unused code (30 R88). -/
  stateLegal : (stateOf s.state).isSome = true
  /-- `seq` holds no unused code (10 R28). -/
  seqLegal : (seqOf s.seq).isSome = true
  /-- A command is in flight only in a command-bearing state (10 R29, 42 R150). -/
  flightInSegment : s.seq ≠ seqCode .idle → inSegment s
  /-- In IDLE, TRN_EVAL, DONE and ERROR `step` is 0 (10 R22). -/
  stepZero : ¬ inSegment s → s.step = 0
  /-- `done` is set exactly in DONE (10 R26, 43 R211). -/
  doneIff : s.done = true ↔ s.state = stateCode .done
  /-- `err` is set exactly in ERROR (10 R26, 60 R233). -/
  errIff : s.err = true ↔ s.state = stateCode .error
  /-- Without an error the error fields are 0 (60 R237). -/
  errFieldsClear : s.err = false → s.errCode = 0 ∧ s.errState = 0 ∧ s.errStep = 0
  /-- An error has a code other than NONE (60 R230). -/
  errCodeSet : s.err = true → s.errCode ≠ 0
  /-- `attempt` is at most 100 (10 R25). -/
  attemptBound : s.attempt.toNat ≤ attemptMax
  /-- Before the first attempt `attempt` is 0 (10 R25). -/
  attemptBefore : ∀ q, stateOf s.state = some q →
    q = .idle ∨ q = .entryRst ∨ q = .clkSel ∨ q = .phyCfg ∨ q = .ctrlCfg ∨ q = .trnHs → s.attempt = 0
  /-- From the first attempt on `attempt` is at least 1 (10 R25). -/
  attemptDuring : ∀ q, stateOf s.state = some q →
    q = .trnPulse ∨ q = .trnSample ∨ q = .trnEval ∨ q = .portEn ∨ q = .done → 1 ≤ s.attempt.toNat
  /-- `converged` is set only after the loop (43 R206). -/
  convergedAfter : s.converged = true → ∀ q, stateOf s.state = some q → q = .portEn ∨ q = .done ∨ q = .error
  /-- The loop is left by convergence or after 100 attempts (43 R206, R208, R214). -/
  loopExit : s.state = stateCode .portEn ∨ s.state = stateCode .done → s.converged = true ∨ s.attempt.toNat = attemptMax
  /-- Outside ERROR `dens` holds a legal class (42 R152, R153). -/
  classLegal : s.state ≠ stateCode .error → (classOf s.dens).isSome = true

/-! ### What a run under a valid CFG keeps -/

/-- The command of the present `(state, step)`, from the segments (42 R151). -/
def currentInstr (s : State) : Option Instr :=
  match stateOf s.state, classOf s.dens with
  | some q, some d => (segInstrs q d s.cfg)[s.step.toNat]?
  | _, _ => none

/-- The sub-states in which a command can be in flight (10 R28). -/
def flightOf : Instr → List SeqState
  | .wr _ _ _ => [.wr]
  | .rd _ _ _ => [.rd]
  | .rmw _ _ _ _ _ => [.rmwRd, .rmwWr]
  | .dly _ => [.dly]
  | .endSeg => []

/-- A run under a valid CFG with the segment storage undamaged: the FSM stands at a command of its segment, what is in
flight is that command, the only error is ILLEGAL_DENSITY, and `converged` says that the samples satisfy the predicate. -/
structure RunInv (s : State) : Prop extends StatusInv s where
  cfgOk : cfgValid s.cfg = true
  storageOk : s.segPatch = []
  /-- `step` is the index of a command (10 R22). -/
  atCommand : inSegment s → (currentInstr s).isSome = true
  /-- `cur` is the command in flight (10 R20, R29). -/
  curInFlight : ∀ q, seqOf s.seq = some q → q ≠ .idle →
    ∃ i, currentInstr s = some i ∧ s.cur = encode i ∧ q ∈ flightOf i
  /-- ILLEGAL_CMD and ILLEGAL_STATE do not occur (41 R136, 60 R230, R235). -/
  onlyIllegalDensity : s.err = true → s.errCode = errCodeBits .illegalDensity ∧ s.errState = 0 ∧ s.errStep = 0
  /-- The samples of the converging attempt satisfy the predicate (43 R206, R214). -/
  convergedSamples : s.converged = true → ∃ d, classOf s.dens = some d ∧ pred s.cfg.trn.diffMode s.S (nsamp s.cfg d) = true

/-! ### Progress -/

/-- The environment of 70 R272, duties 1 and 2, in one step: no reset, and whatever is asked is answered. -/
def responsive (p : Pins) : Bool := !p.rst && p.mAck && p.dDone

/-- How many state changes are left to DONE at most (43 R213). -/
def stagesLeft (s : State) : Nat :=
  match stateOf s.state with
  | some .entryRst => 308
  | some .clkSel => 307
  | some .phyCfg => 306
  | some .ctrlCfg => 305
  | some .trnHs => 304
  | some .trnPulse => 3 * (attemptMax - s.attempt.toNat) + 4
  | some .trnSample => 3 * (attemptMax - s.attempt.toNat) + 3
  | some .trnEval => 3 * (attemptMax - s.attempt.toNat) + 2
  | some .portEn => 1
  | some .idle => 0
  | some .done => 0
  | some .error => 0
  | none => 0

/-- How many steps the command at `step` still takes at most, less one (70 R280). -/
def flightLeft (s : State) : Nat :=
  match seqOf s.seq with
  | some .idle => 2
  | some .wr => 1
  | some .rd => 1
  | some .rmwRd => 1
  | some .rmwWr => 0
  | some .dly => 1
  | none => 0

/-- A bound on the steps left to DONE under a responsive environment. -/
def workLeft (s : State) : Nat :=
  1024 * stagesLeft s + 3 * (255 - s.step.toNat) + flightLeft s

/-! ### Traces -/

/-- The events of one command whose reads, if it makes any, return `v` (41 R130 to R134). -/
def eventsOf (cfg : Cfg) (v : Word) : Instr → List Event
  | .wr sp off imm => [.write (physAddr cfg sp off) imm]
  | .rd _ sp off => [.read (physAddr cfg sp off) v]
  | .rmw sp off lsb wm1 imm =>
    [.read (physAddr cfg sp off) v, .write (physAddr cfg sp off) (rmwMerge lsb wm1 imm v)]
  | .dly ns => [.delay ns]
  | .endSeg => []

/-- A command that reads nothing. -/
def readless : Instr → Bool
  | .rd _ _ _ => false
  | .rmw _ _ _ _ _ => false
  | _ => true

/-- The address of an event that is an access. -/
def eventAddr : Event → Option Word
  | .write a _ => some a
  | .read a _ => some a
  | .delay _ => none

/-- The addresses of a window (20 R51). -/
def inWindow (p : Platform) (sp : Space) (a : Word) : Bool :=
  decide ((baseOf p sp).toNat ≤ a.toNat) && decide (a.toNat ≤ (baseOf p sp).toNat + 0xFFFF)

/-! ### Row fields by name (40 R116) -/

/-- The row field of a parameter set that a name stands for. -/
def romRow (p : ParameterSet) : RowField → Half
  | .b0 => p.rowB0
  | .b1 => p.rowB1
  | .b2_10 => p.rowB2_10
  | .b11 => p.rowB11
  | .b12 => p.rowB12
  | .b13 => p.rowB13
  | .b14 => p.rowB14
  | .b15 => p.rowB15

/-- The open value of CFG that a row field's name stands for. -/
def openRow (o : RomOpenClass) : RowField → Half
  | .b0 => o.rowB0
  | .b1 => o.rowB1
  | .b2_10 => o.rowB2_10
  | .b11 => o.rowB11
  | .b12 => o.rowB12
  | .b13 => o.rowB13
  | .b14 => o.rowB14
  | .b15 => o.rowB15

/-! ### Outcomes of a run (60 R230) -/

/-- The outcomes that a state shows; a hang is a state that does not change, and a reset starts a new run. -/
inductive Outcome where
  | completedConverged | completedNotConverged | error
deriving DecidableEq, Repr

/-- The outcome a state shows, if the run is over (60 R230). -/
def outcomeOf (s : State) : Option Outcome :=
  if s.err then some .error
  else if s.done then some (if s.converged then .completedConverged else .completedNotConverged)
  else none

end Sys2Proof.Safety
end

