-- ==== Sys2Proof/Certificates/Slice0/Obligations.lean ====
section
/-! DEFINITION. The statements for the provers (OBLIGATIONS.json lists them). Each docstring names the rule of spec/ a
statement formalises. A choice of the model's own is named with its log entry. -/

open Sys2Proof Sys2Proof.Config Sys2Proof.Machine Sys2Proof.Safety

/-! ### Encoding -/

/-- 30 R81, R83: every well-formed command, with every operand at every value its encoding admits, is read back from its
word. -/
def Obligations.DecodeReadsEncodedCommand : Prop :=
  ∀ i : Instr, i.wf = true → decode (encode i) = .ok i

/-- 30 R81, R83: a word that decodes is the word of the command it decodes to, and that command is well-formed. -/
def Obligations.DecodedWordIsItsEncoding : Prop :=
  ∀ (c : Cmd) (i : Instr), decode c = .ok i → i.wf = true ∧ encode i = c

/-- 30 R84: a word decodes exactly when it is legal. 42 R150, 60 R234: a fetched word that is not legal raises ILLEGAL_CMD in
the step that fetches it: `cur` holds the illegal word, the error fields hold the position, and nothing else changes. -/
def Obligations.ExactlyLegalWordsAreCommands : Prop :=
  ∀ c : Cmd, ((∃ i, decode c = .ok i) ↔ legal c = true) ∧
    ∀ s : State, (pinsNow s).rst = false → inSegment s → s.seq = seqCode .idle → fetch s = some c → legal c = false →
      step s = .next { takePins s with
        cur := c, err := true, errCode := 2, errState := s.state, errStep := s.step
        state := stateCode .error, step := 0, seq := seqCode .idle }

/-- 95 section 2.3: words written out from the encoding decode to the commands they stand for, and illegal ones are
rejected. A sanity statement. -/
def Obligations.VectorWordsDecode : Prop :=
  decode 0x1000640000130014 = .ok (.wr .ctrl 0x064 0x00130014) ∧
  decode 0x2F00000000000000 = .ok (.rd 3 .sys 0x000) ∧
  decode 0x380010F800000001 = .ok (.rmw .clk 0x010 31 0 1) ∧
  decode 0x40000000FFFFFFFF = .ok (.dly 4294967295) ∧
  decode 0xF000000000000000 = .ok .endSeg ∧
  decode 0x380010F900000001 = .error .fieldOutsideWord ∧
  decode 0x0000000000000000 = .error .reservedOp

/-- 30 R91, R92: every form assembles to the words of the commands it stands for, and a form that breaks 30 R84 is rejected.
The field form `[hi:lo]` is the RMW with `lo = lsb` and `hi = lsb + wm1`, and it assembles exactly when its fields are legal;
SEL is that RMW; a register name stands for its offset. (A CFG field name is its value: the model's choice, log 17.) -/
def Obligations.AssembledFieldWriteDecodes : Prop :=
  ∀ (cfg : Cfg) (sp : Space) (off : AsmOff),
    let o : Off := asmOff cfg off
    let gives (a : Asm) (is : List Instr) : Prop := ∃ cs, assemble cfg a = .ok cs ∧ cs.map decode = is.map .ok
    let rejected (a : Asm) : Prop := ∃ e, assemble cfg a = .error e
    (∀ r, asmOff cfg (.reg r) = ctrlOff cfg r) ∧ (∀ n, asmOff cfg (.num n) = n) ∧
    (∀ (hi lo : Nat) (v : Word),
      let fits : Prop := lo ≤ hi ∧ hi - lo < 8 ∧ hi < 32 ∧ v.toNat < 2 ^ (hi - lo + 1) ∧ offAligned o = true
      (fits → ∃ lsb wm1, lsb.toNat = lo ∧ lsb.toNat + wm1.toNat = hi ∧
        gives (.rmw sp off hi lo v) [.rmw sp o lsb wm1 v]) ∧
      (¬ fits → rejected (.rmw sp off hi lo v)) ∧
      assemble cfg (.sel sp off hi lo v) = assemble cfg (.rmw sp off hi lo v)) ∧
    (∀ (k : BitVec 2) (v on offVal ns : Word),
      (offAligned o = true →
        gives (.wr sp off v) [.wr sp o v] ∧ gives (.rd k sp off) [.rd k sp o] ∧ gives (.clr sp off) [.wr sp o 0] ∧
        gives (.pulse sp off on offVal ns) [.wr sp o on, .dly ns, .wr sp o offVal] ∧
        gives (.pulseH sp off on offVal ns) [.wr sp o on, .dly ns, .wr sp o offVal, .dly ns]) ∧
      (offAligned o = false →
        rejected (.wr sp off v) ∧ rejected (.rd k sp off) ∧ rejected (.clr sp off) ∧
        rejected (.pulse sp off on offVal ns) ∧ rejected (.pulseH sp off on offVal ns)) ∧
      gives (.dly ns) [.dly ns] ∧ gives .endSeg [.endSeg])

/-! ### The commands: issue and completion

Where a statement says `s.step ≠ 255 → …` the value of `step` at 255, which 10 R22 rules out, is free (log 8); so is `attempt`
at 127 (10 R25). -/

/-- 41 R130: WR issues one write of `imm` at `addr`, and its completion emits `W(addr, imm)`; only `seq`, `cur` and `step`
are written. Two clauses rest on the model's choices: that the wait for an ack is a next state in which only the pins have
moved on (log 6), and that `exec` of a misaligned WR takes ILLEGAL_CMD (log 15). -/
def Obligations.WrIssuesThenWrites : Prop :=
  ∀ (sp : Space) (off : Off) (imm : Word) (s : State),
    let issue : State := { s with cur := encode (.wr sp off imm), seq := seqCode .wr }
    encode (.wr sp off imm) = assembleWord 0x1 (spaceCode sp) 0 off 0 0 imm ∧
    inFlight issue = some (.write (physAddr s.cfg sp off) imm) ∧
    (offAligned off = true → exec (.wr sp off imm) s = .next issue) ∧
    (offAligned off = false → ∃ t, exec (.wr sp off imm) s = .next t ∧ t.err = true ∧ t.errCode = 2 ∧
      t.trace = s.trace) ∧
    ((stateOf s.state).isSome = true → (pinsNow s).rst = false →
      ((pinsNow s).mAck = false → step issue = .next (takePins issue)) ∧
      ((pinsNow s).mAck = true → ∃ t, step issue = .next t ∧ (s.step ≠ 255 → t.step = s.step + 1) ∧
        t = { takePins issue with
              seq := seqCode .idle, step := t.step
              trace := s.trace ++ [.write (physAddr s.cfg sp off) imm] }))

/-- 41 R131: RD issues one read, and its completion puts the value read into `S[k]` and emits `R(addr, v)`; no other sample
register, flag or counter is written. Two clauses rest on the model's choices: that the wait for an ack is a next state in
which only the pins have moved on (log 6), and that `exec` of a misaligned RD takes ILLEGAL_CMD (log 15). -/
def Obligations.RdIssuesThenSamples : Prop :=
  ∀ (k : BitVec 2) (sp : Space) (off : Off) (s : State),
    let issue : State := { s with cur := encode (.rd k sp off), seq := seqCode .rd }
    encode (.rd k sp off) = assembleWord 0x2 (spaceCode sp) k off 0 0 0 ∧
    inFlight issue = some (.read (physAddr s.cfg sp off)) ∧
    (offAligned off = true → exec (.rd k sp off) s = .next issue) ∧
    (offAligned off = false → ∃ t, exec (.rd k sp off) s = .next t ∧ t.err = true ∧ t.errCode = 2 ∧ t.trace = s.trace) ∧
    ((stateOf s.state).isSome = true → (pinsNow s).rst = false →
      ((pinsNow s).mAck = false → step issue = .next (takePins issue)) ∧
      ((pinsNow s).mAck = true → ∃ t, step issue = .next t ∧ (s.step ≠ 255 → t.step = s.step + 1) ∧
        readSample t.S k = (pinsNow s).mRdata ∧ (∀ j, j ≠ k → readSample t.S j = readSample s.S j) ∧
        t = { takePins issue with
              seq := seqCode .idle, step := t.step, S := t.S
              trace := s.trace ++ [.read (physAddr s.cfg sp off) (pinsNow s).mRdata] }))

/-- 41 R132: RMW issues its read; the read's completion saves the value in `rmw_old` and issues the write of
`(old & ~mask) | ((imm << lsb) & mask)`; the write's completion ends the command. The other clauses rest on the model's choices: that each half's wait for its ack is
a next state in which only the pins have moved on (log 6), and that `exec` of an ill-formed RMW takes ILLEGAL_CMD (log 15). -/
def Obligations.RmwReadsThenWritesField : Prop :=
  ∀ (sp : Space) (off : Off) (lsb : BitVec 5) (wm1 : BitVec 3) (imm : Word) (s : State),
    let i : Instr := .rmw sp off lsb wm1 imm
    let addr : Word := physAddr s.cfg sp off
    let old : Word := (pinsNow s).mRdata
    let mask : Word := BitVec.ofNat 32 (2 ^ (wm1.toNat + 1) - 1) <<< lsb.toNat
    let new : Word := (old &&& ~~~mask) ||| ((imm <<< lsb.toNat) &&& mask)
    let issue : State := { s with cur := encode i, seq := seqCode .rmwRd }
    let half : State := { takePins issue with
                          seq := seqCode .rmwWr, rmwOld := old, trace := s.trace ++ [.read addr old] }
    encode i = assembleWord 0x3 (spaceCode sp) 0 off lsb wm1 imm ∧
    inFlight issue = some (.read addr) ∧ inFlight half = some (.write addr new) ∧
    (i.wf = true ↔ off.toNat % 4 = 0 ∧ lsb.toNat + (wm1.toNat + 1) ≤ 32 ∧ imm.toNat < 2 ^ (wm1.toNat + 1)) ∧
    (i.wf = true → exec i s = .next issue) ∧
    (i.wf = false → ∃ t, exec i s = .next t ∧ t.err = true ∧ t.errCode = 2 ∧ t.trace = s.trace) ∧
    ((stateOf s.state).isSome = true → (pinsNow s).rst = false →
      ((pinsNow s).mAck = false → step issue = .next (takePins issue)) ∧
      ((pinsNow s).mAck = true → step issue = .next half)) ∧
    ((stateOf s.state).isSome = true → (pinsNow (takePins s)).rst = false →
      ((pinsNow (takePins s)).mAck = false → step half = .next (takePins half)) ∧
      ((pinsNow (takePins s)).mAck = true → ∃ t, step half = .next t ∧ (s.step ≠ 255 → t.step = s.step + 1) ∧
        t = { takePins half with
              seq := seqCode .idle, step := t.step
              trace := s.trace ++ [.read addr old, .write addr new] }))

/-- 41 R133: DLY issues one delay request of `ns` and completes on `d_done` with the event `D(ns)`; it makes no access. That
the wait for `d_done` is a next state in which only the pins have moved on is the model's reading (log 6). -/
def Obligations.DlyIssuesThenExpires : Prop :=
  ∀ (ns : Word) (s : State),
    let issue : State := { s with cur := encode (.dly ns), seq := seqCode .dly }
    encode (.dly ns) = assembleWord 0x4 0 0 0 0 0 ns ∧
    exec (.dly ns) s = .next issue ∧ inFlight issue = none ∧
    portOutputs false issue = { noRequest with dReq := true, dNs := some ns } ∧
    ((stateOf s.state).isSome = true → (pinsNow s).rst = false →
      ((pinsNow s).dDone = false → step issue = .next (takePins issue)) ∧
      ((pinsNow s).dDone = true → ∃ t, step issue = .next t ∧ (s.step ≠ 255 → t.step = s.step + 1) ∧
        t = { takePins issue with
              seq := seqCode .idle, step := t.step, trace := s.trace ++ [.delay ns] }))

/-- 41 R134 with 43 R196, R201, R211: END completes at once, sets `step` to 0 and goes to the next state of the table;
into TRN_PULSE it counts an attempt, into DONE it sets `done`; it makes no access and no event. -/
def Obligations.EndGoesToNextState : Prop :=
  ∀ s : State,
    let at0 (q : FsmState) : State := { s with cur := encode .endSeg, state := stateCode q, step := 0 }
    encode .endSeg = 0xF000000000000000 ∧
    (s.state = stateCode .entryRst → exec .endSeg s = .next (at0 .clkSel)) ∧
    (s.state = stateCode .clkSel → exec .endSeg s = .next (at0 .phyCfg)) ∧
    (s.state = stateCode .phyCfg → exec .endSeg s = .next (at0 .ctrlCfg)) ∧
    (s.state = stateCode .ctrlCfg → exec .endSeg s = .next (at0 .trnHs)) ∧
    (s.state = stateCode .trnHs → ∃ t, exec .endSeg s = .next t ∧ (s.attempt ≠ 127 → t.attempt = s.attempt + 1) ∧
      t = { at0 .trnPulse with attempt := t.attempt }) ∧
    (s.state = stateCode .trnPulse → exec .endSeg s = .next (at0 .trnSample)) ∧
    (s.state = stateCode .trnSample → exec .endSeg s = .next (at0 .trnEval)) ∧
    (s.state = stateCode .portEn → exec .endSeg s = .next { at0 .done with done := true })

/-- 41 R136: every command that breaks 30 R84 takes ILLEGAL_CMD with no access and no event; `cur` holds its word. (No step
executes an ill-formed command; what `exec` does with one is the model's choice, log 15.) -/
def Obligations.IllFormedCommandTakesIllegalCmd : Prop :=
  ∀ (i : Instr) (s : State), i.wf = false → s.seq = seqCode .idle →
    exec i s = .next { s with
      cur := encode i, err := true, errCode := 2, errState := s.state, errStep := s.step
      state := stateCode .error, step := 0 }

/-- 41 R137: no command writes `dens`, `converged`, the sample registers, `rmw_old`, CFG, the trace or the segment storage
when it is executed (RD and RMW write their registers when they complete); `attempt` is written by END alone, in TRN_HS,
and `err` by a command that is not legal. -/
def Obligations.ExecutionFrame : Prop :=
  ∀ (i : Instr) (s t : State), exec i s = .next t →
    t.dens = s.dens ∧ t.converged = s.converged ∧ t.S = s.S ∧ t.rmwOld = s.rmwOld ∧ t.cfg = s.cfg ∧
    t.segPatch = s.segPatch ∧ t.trace = s.trace ∧ t.pins = s.pins ∧ t.tick = s.tick ∧ t.cur = encode i ∧
    (t.attempt ≠ s.attempt → i = .endSeg ∧ s.state = stateCode .trnHs) ∧
    (t.done ≠ s.done → i = .endSeg ∧ s.state = stateCode .portEn) ∧
    (i.wf = true → t.err = s.err ∧ t.errCode = s.errCode ∧ t.errState = s.errState ∧ t.errStep = s.errStep)

/-- 41 R130 to R133, R135: a completion writes `seq`, `step` and the trace, RD its one sample register, the read half of an
RMW `rmw_old`; every other register is unchanged, and outside the address written no last-written word changes. -/
def Obligations.CompletionFrame : Prop :=
  ∀ (p : Pins) (s t : State), complete p s = .next t →
    t.state = s.state ∧ t.dens = s.dens ∧ t.attempt = s.attempt ∧ t.converged = s.converged ∧ t.done = s.done ∧
    t.err = s.err ∧ t.errCode = s.errCode ∧ t.errState = s.errState ∧ t.errStep = s.errStep ∧ t.cur = s.cur ∧
    t.cfg = s.cfg ∧ t.segPatch = s.segPatch ∧ t.withdrawn = s.withdrawn ∧
    (s.seq ≠ seqCode .rd → t.S = s.S) ∧
    (∀ j, j ≠ cmdSlot s.cur → readSample t.S j = readSample s.S j) ∧
    (s.seq ≠ seqCode .rmwRd → t.rmwOld = s.rmwOld) ∧
    (s.seq ≠ seqCode .wr → s.seq ≠ seqCode .rmwWr → ∀ a, lastWrite t.trace a = lastWrite s.trace a) ∧
    (∀ a, a ≠ curAddr s → lastWrite t.trace a = lastWrite s.trace a)

/-- 20 R54, R60: after a completed write the last word written to its address is the word written. -/
def Obligations.CompletedWriteIsLastWrite : Prop :=
  ∀ (p : Pins) (s t : State), p.mAck = true → complete p s = .next t →
    (s.seq = seqCode .wr → lastWrite t.trace (curAddr s) = some (cmdImm s.cur)) ∧
    (s.seq = seqCode .rmwWr → lastWrite t.trace (curAddr s) = some (curMerged s))

/-! ### The step -/

/-- 42 R150: in a command-bearing state with nothing in flight, a step executes the decoded command on the state in which
this step's pins are taken and `cur` is the fetched word. -/
def Obligations.StepRunsDecodedCommand : Prop :=
  ∀ (s : State) (c : Cmd) (i : Instr), (pinsNow s).rst = false → inSegment s → s.seq = seqCode .idle →
    fetch s = some c → decode c = .ok i → step s = exec i (setCur c (takePins s))

/-- 42 R150, R151: the word fetched is the segment's word at `step`. (Past the end it is the all-zero word: the model's
reading of 30 R82, log 9.) -/
def Obligations.FetchReadsSegment : Prop :=
  ∀ (s : State) (q : FsmState) (d : Density) (i : Instr), s.segPatch = [] → stateOf s.state = some q →
    classOf s.dens = some d → (segInstrs q d s.cfg)[s.step.toNat]? = some i → fetch s = some (encode i)

/-- Log 14 (the model's own): a command word placed with `withFetchWord` is the one the next step executes. -/
def Obligations.PlacedWordIsExecuted : Prop :=
  ∀ (s : State) (w : Nat) (i : Instr), decodeTableWord 64 w = some i →
    step (s.withFetchWord 64 w) = exec i (setCur (BitVec.ofNat 64 w) (takePins (s.withFetchWord 64 w)))

/-- 70 R260 and 10 R34: under `rst` every register of the block takes its reset value, whatever the state, and no request
is up; State.reset has those values. -/
def Obligations.ResetGivesResetValues : Prop :=
  (∀ s : State, (pinsNow s).rst = true → ∃ t, step s = .next t ∧
    t.state = stateCode .idle ∧ t.step = 0 ∧ t.dens = 0 ∧ t.S = ⟨0, 0, 0, 0⟩ ∧ t.attempt = 0 ∧ t.converged = false ∧
    t.done = false ∧ t.err = false ∧ t.errCode = 0 ∧ t.errState = 0 ∧ t.errStep = 0 ∧ t.seq = seqCode .idle ∧
    t.cur = 0 ∧ t.rmwOld = 0 ∧ statusWord t = 0 ∧ portOutputs true s = noRequest) ∧
  (State.reset.state = stateCode .idle ∧ State.reset.step = 0 ∧ State.reset.dens = 0 ∧ State.reset.S = ⟨0, 0, 0, 0⟩ ∧
    State.reset.attempt = 0 ∧ State.reset.converged = false ∧ State.reset.done = false ∧ State.reset.err = false ∧
    State.reset.errCode = 0 ∧ State.reset.errState = 0 ∧ State.reset.errStep = 0 ∧ State.reset.seq = seqCode .idle ∧
    State.reset.cur = 0 ∧ State.reset.rmwOld = 0)

/-- 70 R262: a reset withdraws the access in flight with no event. That it is recorded as withdrawn, with a Boolean that says
whether its target performed it, and that a delay is not recorded, is the model's choice (log 5); so is that the trace stays
(log 4). CFG and the segment storage stay. -/
def Obligations.ResetWithdrawsAccess : Prop :=
  ∀ s : State, (pinsNow s).rst = true → ∃ t, step s = .next t ∧ t.trace = s.trace ∧ t.cfg = s.cfg ∧
    t.segPatch = s.segPatch ∧
    (∀ r, inFlight s = some r → ∃ b, t.withdrawn = s.withdrawn ++ [⟨r, b⟩]) ∧
    (inFlight s = none → t.withdrawn = s.withdrawn) ∧ inFlight t = none

/-- 42 R152: in IDLE with nothing in flight a start with a legal class is accepted; without `start` the block stays (a next
state in which only the pins have moved on: the model's reading, log 6). -/
def Obligations.StartIsAcceptedInIdle : Prop :=
  ∀ s : State, s.state = stateCode .idle → s.seq = seqCode .idle → (pinsNow s).rst = false →
    ((pinsNow s).start = false → step s = .next (takePins s)) ∧
    ((pinsNow s).start = true → (pinsNow s).density.toNat ≤ 4 →
      step s = .next { takePins s with
        dens := (pinsNow s).density, attempt := 0, converged := false, state := stateCode .entryRst, step := 0 })

/-- 42 R153, 60 R233: a start with class code 5, 6 or 7 takes ILLEGAL_DENSITY in that step, latches the code, and makes no
access. `err_step` is `step`, where 60 R232 records 0: the model's reading (log 21), the same wherever `step` is 0, as it is
in every IDLE state of a run. -/
def Obligations.IllegalDensityIsRefusedAtStart : Prop :=
  ∀ s : State, s.state = stateCode .idle → s.seq = seqCode .idle → (pinsNow s).rst = false →
    (pinsNow s).start = true → 5 ≤ (pinsNow s).density.toNat →
      step s = .next { takePins s with
        dens := (pinsNow s).density, err := true, errCode := 1, errState := 0, errStep := s.step
        state := stateCode .error, step := 0 }

/-- 42 R152, 70 R275: outside IDLE, and while a command is in flight, `start` and `density` have no effect. -/
def Obligations.StartIgnoredOutsideIdle : Prop :=
  ∀ (p : Pins) (b : Bool) (d : BitVec 3) (s : State), s.state ≠ stateCode .idle ∨ s.seq ≠ seqCode .idle →
    pinStep { p with start := b, density := d } s = pinStep p s

/-- 20 R55, 70 R262: `m_ack`, `m_rdata` and `d_done` have no effect while nothing is in flight (a late answer is ignored),
and `d_done` has none during an access, the bus none during a delay. (An answer that comes while a later request is in
flight is that request's: the model's choice, log 23.) -/
def Obligations.UnaskedAnswersAreIgnored : Prop :=
  ∀ (p : Pins) (a b : Bool) (v : Word) (s : State),
    (s.seq = seqCode .idle → pinStep { p with mAck := a, mRdata := v, dDone := b } s = pinStep p s) ∧
    (s.seq = seqCode .dly → pinStep { p with mAck := a, mRdata := v } s = pinStep p s) ∧
    (s.seq ≠ seqCode .dly → pinStep { p with dDone := b } s = pinStep p s)

/-- 60 R235, R236: an unused state code takes ILLEGAL_STATE before every other action, whatever is in flight or asked; the
access in flight is abandoned with no event. That it is recorded as withdrawn, with a Boolean, and that nothing is recorded
for a delay, is the model's choice (log 5). -/
def Obligations.UnusedStateCodeTakesIllegalState : Prop :=
  ∀ s : State, 11 ≤ s.state.toNat → s.state.toNat ≤ 14 → (pinsNow s).rst = false → ∃ t, step s = .next t ∧
    t.state = stateCode .error ∧ t.step = 0 ∧ t.seq = seqCode .idle ∧ t.err = true ∧ t.errCode = 3 ∧
    t.errState = s.state ∧ t.errStep = s.step ∧ t.trace = s.trace ∧ t.dens = s.dens ∧ t.attempt = s.attempt ∧
    t.converged = s.converged ∧ t.S = s.S ∧ t.cur = s.cur ∧ t.rmwOld = s.rmwOld ∧
    (∀ r, inFlight s = some r → ∃ b, t.withdrawn = s.withdrawn ++ [⟨r, b⟩]) ∧
    (inFlight s = none → t.withdrawn = s.withdrawn)

/-- 60 R233: what taking an error writes, and what it keeps. -/
def Obligations.ErrorEntryRecordsPosition : Prop :=
  ∀ (e : ErrCode) (s : State),
    let t := raiseErr e s
    t.err = true ∧ t.errCode = errCodeBits e ∧ t.errState = s.state ∧ t.errStep = s.step ∧
    t.state = stateCode .error ∧ t.step = 0 ∧ t.seq = seqCode .idle ∧
    t.dens = s.dens ∧ t.attempt = s.attempt ∧ t.converged = s.converged ∧ t.done = s.done ∧ t.S = s.S ∧ t.cur = s.cur ∧
    t.rmwOld = s.rmwOld ∧ t.trace = s.trace ∧ t.cfg = s.cfg ∧
    errCodeBits .illegalDensity = 1 ∧ errCodeBits .illegalCmd = 2 ∧ errCodeBits .illegalState = 3

/-- 60 R237, 43 R212: from ERROR and from DONE, with nothing in flight, only reset leads away; without it no register
changes and nothing is emitted. -/
def Obligations.OnlyResetLeavesErrorAndDone : Prop :=
  ∀ s : State, s.state = stateCode .error ∨ s.state = stateCode .done → s.seq = seqCode .idle →
    ((pinsNow s).rst = false → step s = .next (takePins s)) ∧
    ((pinsNow s).rst = true → ∃ t, step s = .next t ∧ t.state = stateCode .idle ∧ t.err = false ∧ t.errCode = 0 ∧
      t.errState = 0 ∧ t.errStep = 0 ∧ t.done = false)

/-- 10 R29, 41 R135, 20 R56, 60 R241: while a command is in flight, nothing is fetched and `state` and `cur` stay; without
an answer the whole block stays as it is (a next state in which only the pins have moved on: the model's reading, log 6). -/
def Obligations.CommandInFlightHoldsTheBlock : Prop :=
  ∀ (s t : State), (stateOf s.state).isSome = true → s.seq ≠ seqCode .idle → (pinsNow s).rst = false →
    step s = .next t → t.state = s.state ∧ t.cur = s.cur ∧
      ((pinsNow s).mAck = false → (pinsNow s).dDone = false → t = takePins s)

/-- 43 R206: in TRN_EVAL, if the predicate holds, the block has converged and goes to PORT_EN. -/
def Obligations.ConvergenceGoesToPortEn : Prop :=
  ∀ (s : State) (d : Density), s.state = stateCode .trnEval → s.seq = seqCode .idle → (pinsNow s).rst = false →
    classOf s.dens = some d → pred s.cfg.trn.diffMode s.S (nsamp s.cfg d) = true →
      step s = .next { takePins s with converged := true, state := stateCode .portEn, step := 0 }

/-- 43 R207, R201: in TRN_EVAL, if the predicate fails and attempts are left, the next attempt begins and is counted. -/
def Obligations.FailedAttemptIsRetried : Prop :=
  ∀ (s : State) (d : Density), s.state = stateCode .trnEval → s.seq = seqCode .idle → (pinsNow s).rst = false →
    classOf s.dens = some d → pred s.cfg.trn.diffMode s.S (nsamp s.cfg d) = false → s.attempt.toNat < 100 →
      step s = .next { takePins s with state := stateCode .trnPulse, step := 0, attempt := s.attempt + 1 }

/-- 43 R208, R209: in TRN_EVAL, if the predicate fails at attempt 100, the block goes to PORT_EN with `converged` and the
error fields as they were. -/
def Obligations.ExhaustionGoesToPortEn : Prop :=
  ∀ (s : State) (d : Density), s.state = stateCode .trnEval → s.seq = seqCode .idle → (pinsNow s).rst = false →
    classOf s.dens = some d → pred s.cfg.trn.diffMode s.S (nsamp s.cfg d) = false → s.attempt.toNat = 100 →
      step s = .next { takePins s with state := stateCode .portEn, step := 0 }

/-! ### Who writes what -/

/-- 43 R201: every entry into TRN_PULSE adds 1 to `attempt`, reset and start acceptance set it to 0, and nothing else writes
it. (`attempt` is in its range, 10 R25; that every step keeps it there is StepKeepsStatusInv.) -/
def Obligations.AttemptWrittenOnlyOnEntry : Prop :=
  ∀ (s t : State), step s = .next t → s.attempt.toNat ≤ 100 →
    (t.attempt = s.attempt ∨
      (t.attempt = 0 ∧ ((pinsNow s).rst = true ∨ (s.state = stateCode .idle ∧ t.state = stateCode .entryRst))) ∨
      (t.attempt = s.attempt + 1 ∧ t.state = stateCode .trnPulse ∧
        (s.state = stateCode .trnHs ∨ s.state = stateCode .trnEval))) ∧
    (s.state ≠ stateCode .trnPulse → t.state = stateCode .trnPulse → t.attempt = s.attempt + 1) ∧
    ((pinsNow s).rst = true ∨ (s.state = stateCode .idle ∧ t.state = stateCode .entryRst) → t.attempt = 0)

/-- 10 R23: `dens` is written only by reset and in IDLE by a start request. -/
def Obligations.DensityLatchedOnlyAtStart : Prop :=
  ∀ (s t : State), step s = .next t → (pinsNow s).rst = false → t.dens ≠ s.dens →
    s.state = stateCode .idle ∧ (pinsNow s).start = true ∧ t.dens = (pinsNow s).density

/-- 10 R24: besides reset only the completion of an RD writes a sample register, the one of its slot, with the value
read. -/
def Obligations.SamplesWrittenOnlyByRd : Prop :=
  ∀ (s t : State), step s = .next t → (pinsNow s).rst = false → t.S ≠ s.S →
    s.seq = seqCode .rd ∧ (pinsNow s).mAck = true ∧ t.S = writeSample s.S (cmdSlot s.cur) (pinsNow s).mRdata

/-- 10 R26: who sets and clears `converged`, `done` and `err`. -/
def Obligations.FlagsWrittenOnlyByTheirRules : Prop :=
  ∀ (s t : State), step s = .next t →
    (t.converged = true → s.converged = false →
      s.state = stateCode .trnEval ∧ ∃ d, classOf s.dens = some d ∧ pred s.cfg.trn.diffMode s.S (nsamp s.cfg d) = true) ∧
    (t.converged = false → s.converged = true →
      (pinsNow s).rst = true ∨ (s.state = stateCode .idle ∧ (pinsNow s).start = true)) ∧
    (t.done = true → s.done = false → s.state = stateCode .portEn ∧ t.state = stateCode .done) ∧
    (t.done = false → s.done = true → (pinsNow s).rst = true) ∧
    (t.err = true → s.err = false → t.state = stateCode .error) ∧
    (t.err = false → s.err = true → (pinsNow s).rst = true)

/-- 10 R30, 20 R65, 40 R119: no step changes CFG or the segment storage, so the ROM and every segment stay. -/
def Obligations.ConfigurationNeverChanges : Prop :=
  ∀ (s t : State), step s = .next t → t.cfg = s.cfg ∧ t.segPatch = s.segPatch

/-- 20 R58, R59, R60: a step emits nothing, or one event: the completion of the access or delay in flight. -/
def Obligations.EventsAreCompletionsInOrder : Prop :=
  ∀ (s t : State), step s = .next t →
    t.trace = s.trace ∨
    ((pinsNow s).rst = false ∧ ∃ e, t.trace = s.trace ++ [e] ∧
      ((∃ a v, inFlight s = some (.write a v) ∧ (pinsNow s).mAck = true ∧ e = .write a v) ∨
       (∃ a, inFlight s = some (.read a) ∧ (pinsNow s).mAck = true ∧ e = .read a (pinsNow s).mRdata) ∨
       (s.seq = seqCode .dly ∧ (pinsNow s).dDone = true ∧ e = .delay (cmdImm s.cur))))

/-! ### Datapath -/

/-- 20 R51: each space has its code and its base, and an address is the base plus the offset. 20 R68: under bases that meet
their constraints no address wraps, and an aligned offset gives an aligned address. -/
def Obligations.AddressesDoNotWrap : Prop :=
  (spaceCode .ctrl = 0 ∧ spaceCode .phy = 1 ∧ spaceCode .clk = 2 ∧ spaceCode .sys = 3 ∧
    ∀ sp, spaceOfCode (spaceCode sp) = sp) ∧
  ∀ (cfg : Cfg) (off : Off),
    physAddr cfg .ctrl off = cfg.platform.ctrlBase + off.setWidth 32 ∧
    physAddr cfg .phy off = cfg.platform.phyBase + off.setWidth 32 ∧
    physAddr cfg .clk off = cfg.platform.clkBase + off.setWidth 32 ∧
    physAddr cfg .sys off = cfg.platform.sysBase + off.setWidth 32 ∧
    (platformValid cfg.platform = true → ∀ sp,
      (physAddr cfg sp off).toNat = (baseOf cfg.platform sp).toNat + off.toNat ∧
      (offAligned off = true → (physAddr cfg sp off).toNat % 4 = 0))

/-- 41 R132, 30 R85: the merged word has the field's bits from the value and every other bit as read. -/
def Obligations.MergeReplacesExactlyTheField : Prop :=
  ∀ (lsb : BitVec 5) (wm1 : BitVec 3) (imm old : Word) (i : Nat), fieldInWord lsb wm1 = true → i < 32 →
    (rmwMerge lsb wm1 imm old).getLsbD i =
      (if lsb.toNat ≤ i ∧ i ≤ lsb.toNat + wm1.toNat then imm.getLsbD (i - lsb.toNat) else old.getLsbD i)

/-- 43 R203: both modes of `absdiff`: their ranges, symmetry, zero on equals, and that they differ only where the true
difference is more than 2^31. -/
def Obligations.AbsdiffModes : Prop :=
  ∀ a b : Word,
    (absdiff .exact a b : Int) = |(a.toNat : Int) - (b.toNat : Int)| ∧
    (absdiff .wrapI32 a b : Int) = |(a - b).toInt| ∧
    absdiff .exact a b < 2 ^ 32 ∧ absdiff .wrapI32 a b ≤ 2 ^ 31 ∧
    (∀ m, absdiff m a b = absdiff m b a ∧ absdiff m a a = 0) ∧
    (absdiff .exact a b ≤ 2 ^ 31 → absdiff .wrapI32 a b = absdiff .exact a b) ∧
    absdiff .exact 0xFFFFFFFF 0 = 0xFFFFFFFF ∧ absdiff .wrapI32 0xFFFFFFFF 0 = 1

/-- 43 R204: the predicate is bit 7 of `S[0]` clear and every pair of the first `n` samples within 4; it reads no other
sample. -/
def Obligations.PredicateIsAllPairs : Prop :=
  ∀ (m : DiffMode) (S : Samples) (n : Nat), n = 2 ∨ n = 4 →
    (pred m S n = true ↔ (sampleAt S 0).getLsbD 7 = false ∧
      ∀ i j, i < j → j < n → absdiff m (sampleAt S i) (sampleAt S j) ≤ 4) ∧
    (∀ S' : Samples, (∀ k, k < n → sampleAt S' k = sampleAt S k) → pred m S' n = pred m S n)

/-- 30 R90, 10 R27: the fields of the status word, and that the separate host outputs carry the same values. 30 R88: the codes
that its state field shows; 11 to 14 name no state. -/
def Obligations.StatusWordFields : Prop :=
  (stateCode .idle = 0 ∧ stateCode .entryRst = 1 ∧ stateCode .clkSel = 2 ∧ stateCode .phyCfg = 3 ∧
    stateCode .ctrlCfg = 4 ∧ stateCode .trnHs = 5 ∧ stateCode .trnPulse = 6 ∧ stateCode .trnSample = 7 ∧
    stateCode .trnEval = 8 ∧ stateCode .portEn = 9 ∧ stateCode .done = 10 ∧ stateCode .error = 15) ∧
  (∀ q, stateOf (stateCode q) = some q) ∧
  (∀ b, stateOf b = none ↔ 11 ≤ b.toNat ∧ b.toNat ≤ 14) ∧
  ∀ s : State,
    let w := statusWord s
    (w.getLsbD 0 = true ↔ s.state ≠ 0 ∧ s.state ≠ 10 ∧ s.state ≠ 15) ∧
    w.getLsbD 1 = s.done ∧ w.getLsbD 2 = s.converged ∧ w.getLsbD 3 = s.err ∧
    w.extractLsb' 4 7 = s.attempt ∧ w.getLsbD 11 = false ∧
    w.extractLsb' 12 4 = (if s.err then s.errState else s.state) ∧
    w.extractLsb' 16 3 = s.dens ∧ w.getLsbD 19 = false ∧ w.extractLsb' 20 4 = s.errCode ∧
    w.extractLsb' 24 8 = (if s.err then s.errStep else s.step) ∧
    hostOutputs s = { busy := w.getLsbD 0, done := w.getLsbD 1, converged := w.getLsbD 2, err := w.getLsbD 3
                      errCode := w.extractLsb' 20 4, attempts := w.extractLsb' 4 7, status := w }

/-- 20 R52, R57, 60 R240: the request outputs are those of the command in flight, with CFG's one attribute. 10 R28: the codes
of the sub-states; 6 and 7 name none. -/
def Obligations.PortsShowCommandInFlight : Prop :=
  (seqCode .idle = 0 ∧ seqCode .wr = 1 ∧ seqCode .rd = 2 ∧ seqCode .rmwRd = 3 ∧ seqCode .rmwWr = 4 ∧ seqCode .dly = 5) ∧
  (∀ b, seqOf b = none ↔ b = 6 ∨ b = 7) ∧
  ∀ s : State,
    (s.seq = seqCode .idle → portOutputs false s = noRequest) ∧
    (s.seq = seqCode .wr → portOutputs false s =
      { noRequest with mReq := true, mWe := some true, mAddr := some (curAddr s), mWdata := some (cmdImm s.cur)
                       mAttr := some s.cfg.platform.privAttr }) ∧
    (s.seq = seqCode .rd ∨ s.seq = seqCode .rmwRd → portOutputs false s =
      { noRequest with mReq := true, mWe := some false, mAddr := some (curAddr s)
                       mAttr := some s.cfg.platform.privAttr }) ∧
    (s.seq = seqCode .rmwWr → portOutputs false s =
      { noRequest with mReq := true, mWe := some true, mAddr := some (curAddr s), mWdata := some (curMerged s)
                       mAttr := some s.cfg.platform.privAttr }) ∧
    (s.seq = seqCode .dly → portOutputs false s = { noRequest with dReq := true, dNs := some (cmdImm s.cur) })

/-! ### ROM and segments -/

/-- 40 R112, R113, R114, R115: every value the source gives, for every class and whatever CFG holds. -/
def Obligations.RomHoldsSourceValues : Prop :=
  ∀ cfg : Cfg,
    (let p := rom cfg .d32M
     p.rfcMin = 0x1a ∧ p.rfcNomX32 = 0x30 ∧ p.emrMr = 0x83 ∧ p.tRasMin = 8 ∧ p.tRasMax = 0xd ∧ p.tFaw = 0xa ∧
     p.wr2pre = 7 ∧ p.tRc = 0xd ∧ p.wr2rd = 7 ∧ p.tRp = 5 ∧ p.tRcd = 4 ∧ p.tXsr = 0x1c ∧ p.zqShortNop = 0x12 ∧
     p.zqLongNop = 0x48 ∧ p.zqResetNop = 0xa ∧ p.postCkeX1024 = 0x28 ∧ p.idleAfterResetX32 = 6 ∧ p.zqinitX32 = 7) ∧
    (∀ d, d ≠ .d32M →
      let p := rom cfg d
      p.emrMr = 0x63 ∧ p.tRasMin = 7 ∧ p.tRasMax = 0xa ∧ p.tFaw = 8 ∧ p.wr2pre = 6 ∧ p.tRc = 0xa ∧ p.wr2rd = 6 ∧
      p.tRp = 4 ∧ p.tRcd = 3 ∧ p.tXsr = 0x16 ∧ p.zqShortNop = 0xf ∧ p.zqLongNop = 0x39 ∧ p.zqResetNop = 0x8 ∧
      p.postCkeX1024 = 0x1f ∧ p.idleAfterResetX32 = 4 ∧ p.zqinitX32 = 5 ∧ p.rfcMin = 0x14) ∧
    ((rom cfg .d64M).rfcNomX32 = 0x26 ∧ (rom cfg .d128M).rfcNomX32 = 0x26 ∧ (rom cfg .d256M).rfcNomX32 = 0x13 ∧
      (rom cfg .d512M).rfcNomX32 = 0x13) ∧
    (let bank (d : Density) := ((rom cfg d).bankB0, (rom cfg d).bankB1, (rom cfg d).bankB2)
     bank .d32M = (6, 6, 0x1f) ∧ bank .d64M = (7, 7, 0x1f) ∧ bank .d128M = (7, 7, 7) ∧ bank .d256M = (7, 7, 7) ∧
     bank .d512M = (8, 8, 8))

/-- 30 R86, R87: which class a density code names. 40 R118, R116: the class flags are those of 32M exactly for 32M; ROW_B13 of
128M and 256M; for 512M the row fields that `CFG.ROW512_PAIR` names are 7. 40 R111: every field without a value is CFG's open
value of that name, of the branch or of the class. -/
def Obligations.RomClassFlagsAndRows : Prop :=
  (classOf 0 = some .d32M ∧ classOf 1 = some .d64M ∧ classOf 2 = some .d128M ∧ classOf 3 = some .d256M ∧
    classOf 4 = some .d512M ∧ classOf 5 = none ∧ classOf 6 = none ∧ classOf 7 = none) ∧
  ∀ (cfg : Cfg) (d : Density),
    ((rom cfg d).bus16 = true ↔ d = .d32M) ∧ ((rom cfg d).clk200 = true ↔ d = .d32M) ∧
    (nsamp cfg d = 2 ↔ d = .d32M) ∧ (nsamp cfg d = 4 ↔ d ≠ .d32M) ∧
    (rom cfg .d128M).rowB13 = 0xf ∧ (rom cfg .d256M).rowB13 = 6 ∧
    (∀ f : RowField,
      (cfg.rom.row512First = f ∨ cfg.rom.row512Second = f → romRow (rom cfg .d512M) f = 7) ∧
      (cfg.rom.row512First ≠ f → cfg.rom.row512Second ≠ f →
        romRow (rom cfg .d512M) f = openRow cfg.rom.perClass.c512M f) ∧
      romRow (rom cfg .d32M) f = openRow cfg.rom.perClass.c32M f ∧
      romRow (rom cfg .d64M) f = openRow cfg.rom.perClass.c64M f ∧
      (f ≠ .b13 → romRow (rom cfg .d128M) f = openRow cfg.rom.perClass.c128M f ∧
        romRow (rom cfg .d256M) f = openRow cfg.rom.perClass.c256M f)) ∧
    (let P : ParameterSet := rom cfg d
     let b : RomOpenBranch := if d = .d32M then cfg.rom.branch.b32M else cfg.rom.branch.common
     P.preCkeX1024 = b.preCkeX1024 ∧ P.minStableClockX1 = b.minStableClockX1 ∧ P.mr3 = b.mr3 ∧ P.tRrd = b.tRrd ∧
     P.tCcd = b.tCcd ∧ P.tCke = b.tCke ∧ P.tCkesr = b.tCkesr ∧ P.tCksre = b.tCksre ∧ P.tCksrx = b.tCksrx ∧
     P.ckpd = b.ckpd) ∧
    (let cols (d : Density) : List Half := [(rom cfg d).colB8, (rom cfg d).colB9, (rom cfg d).colB10, (rom cfg d).colB11]
     let openCols (o : RomOpenClass) : List Half := [o.colB8, o.colB9, o.colB10, o.colB11]
     cols .d32M = openCols cfg.rom.perClass.c32M ∧ cols .d64M = openCols cfg.rom.perClass.c64M ∧
     cols .d128M = openCols cfg.rom.perClass.c128M ∧ cols .d256M = openCols cfg.rom.perClass.c256M ∧
     cols .d512M = openCols cfg.rom.perClass.c512M)

/-- 42 R151, 10 R22: every segment ends with exactly one END, its last command, and under a valid CFG has at most 255
commands. -/
def Obligations.SegmentsEndWithOneEnd : Prop :=
  ∀ (cfg : Cfg) (d : Density) (q : FsmState), commandBearing q = true →
    (∃ body, segInstrs q d cfg = body ++ [.endSeg] ∧ .endSeg ∉ body) ∧
    (cfgValid cfg = true → (segInstrs q d cfg).length ≤ 255)

/-- 41 R136, 92 section 2.7: under a valid CFG every command word of every segment is legal. -/
def Obligations.ValidCfgSegmentsAreLegal : Prop :=
  ∀ (cfg : Cfg) (d : Density) (q : FsmState) (c : Cmd), cfgValid cfg = true → c ∈ seg q d cfg → legal c = true

/-- 42 R177, R156 and 43 R190: the lengths of the segments; CTRL_CFG's is the same for every class. -/
def Obligations.SegmentLengths : Prop :=
  ∀ (cfg : Cfg) (d : Density),
    (seg .entryRst d cfg).length = 4 ∧ (seg .clkSel d cfg).length = 2 ∧
    (seg .phyCfg d cfg).length = (if d = .d32M then 27 else 26) ∧
    (seg .ctrlCfg d cfg).length = 62 + cfg.prog.schedAux.length + cfg.prog.varpri.length ∧
    (seg .trnHs d cfg).length = 13 ∧ (seg .trnPulse d cfg).length = 5 ∧
    (seg .trnSample d cfg).length = (if d = .d32M then 3 else 5) ∧ (seg .portEn d cfg).length = 5

/-- 42 R165, R168, R169, R171, R173 with the default field places of 20 R70: the packed words the spec gives. Besides, the
default tables themselves: 20 R69's offsets, R70's places, R74's gates and the other defaults of 92 section 2. All of them are
the spec's own, most from general knowledge (log 19). -/
def Obligations.DefaultPackedWords : Prop :=
  (∀ cfg : Cfg, cfg.pack = [] →
      packedWord cfg .d32M .rfshtmg = 0x0030001A ∧ packedWord cfg .d512M .rfshtmg = 0x00130014 ∧
      packedWord cfg .d32M .dramtmg0 = 0x070A0D08 ∧
      (∀ d, d ≠ .d32M → packedWord cfg d .dramtmg0 = 0x06080A07 ∧ packedWord cfg d .dramtmg14 = 0x00000016 ∧
        packedWord cfg d .zqctl0 = 0x4039000F ∧ packedWord cfg d .zqctl1 = 0x00800000) ∧
      packedWord cfg .d32M .dramtmg14 = 0x0000001C ∧ packedWord cfg .d32M .zqctl0 = 0x40480012 ∧
      packedWord cfg .d32M .zqctl1 = 0x00A00000 ∧
      packedWord cfg .d32M .addrmap1 = 0x001F0606 ∧ packedWord cfg .d512M .addrmap1 = 0x00080808 ∧
      (∀ d, allPorts.map (fun n => packedWord cfg d (.pcfgr n)) = [0x000013FF, 0x00001020, 0x00001000, 0x00001004] ∧
        allPorts.map (fun n => packedWord cfg d (.pcfgw n)) = [0x000013FF, 0x000010FF, 0x0000103F, 0x0000105F])) ∧
  (∀ cfg : Cfg, cfg.ctrlOff = [] →
    [RegName.mstr, .mrctrl0, .mrctrl1, .derateen, .derateint, .pwrctl, .pwrtmg, .hwlpctl, .rfshctl0, .rfshctl1].map
        (ctrlOff cfg) =
      [0x000, 0x010, 0x014, 0x020, 0x024, 0x030, 0x034, 0x038, 0x050, 0x054] ∧
    [RegName.rfshctl3, .rfshtmg, .init0, .init1, .init2, .init3, .init4, .init5, .dimmctl, .rankctl].map (ctrlOff cfg) =
      [0x060, 0x064, 0x0d0, 0x0d4, 0x0d8, 0x0dc, 0x0e0, 0x0e4, 0x0f0, 0x0f4] ∧
    [RegName.dramtmg0, .dramtmg1, .dramtmg2, .dramtmg3, .dramtmg4, .dramtmg5, .dramtmg6, .dramtmg7, .dramtmg14].map
        (ctrlOff cfg) =
      [0x100, 0x104, 0x108, 0x10c, 0x110, 0x114, 0x118, 0x11c, 0x138] ∧
    [RegName.zqctl0, .zqctl1, .dfitmg0, .dfitmg1, .dfilpcfg0, .dfiupd0, .dfiupd1, .dfiupd2, .dfimisc, .dfiphymstr].map
        (ctrlOff cfg) =
      [0x180, 0x184, 0x190, 0x194, 0x198, 0x1a0, 0x1a4, 0x1a8, 0x1b0, 0x1c4] ∧
    [RegName.addrmap0, .addrmap1, .addrmap2, .addrmap3, .addrmap4, .addrmap5, .addrmap6, .odtcfg, .odtmap].map
        (ctrlOff cfg) =
      [0x200, 0x204, 0x208, 0x20c, 0x210, 0x214, 0x218, 0x240, 0x244] ∧
    [RegName.sched, .sched1, .perfhpr1, .perflpr1, .perfwr1, .dbg0, .dbg1, .dbgcmd, .swctl, .pccfg].map (ctrlOff cfg) =
      [0x250, 0x254, 0x25c, 0x264, 0x26c, 0x300, 0x304, 0x30c, 0x320, 0x400] ∧
    ∀ n : Port,
      (ctrlOff cfg (.pcfgr n)).toNat = 0x404 + 0xb0 * n.val ∧ (ctrlOff cfg (.pcfgw n)).toNat = 0x408 + 0xb0 * n.val ∧
      (ctrlOff cfg (.pctrl n)).toNat = 0x490 + 0xb0 * n.val ∧
      (ctrlOff cfg (.pcfgqos0 n)).toNat = 0x494 + 0xb0 * n.val ∧
      (ctrlOff cfg (.pcfgqos1 n)).toNat = 0x498 + 0xb0 * n.val ∧
      (ctrlOff cfg (.pcfgwqos0 n)).toNat = 0x49c + 0xb0 * n.val ∧
      (ctrlOff cfg (.pcfgwqos1 n)).toNat = 0x4a0 + 0xb0 * n.val) ∧
  (∀ cfg : Cfg, cfg.pack = [] →
    let place (f : FieldName) : Nat × Nat := ((packOf cfg f).lsb + (packOf cfg f).width - 1, (packOf cfg f).lsb)
    [FieldName.rfcMin, .rfcNomX32, .preCkeX1024, .postCkeX1024, .minStableClockX1, .idleAfterResetX32,
        .devZqinitX32].map place =
      [(9, 0), (27, 16), (11, 0), (25, 16), (3, 0), (15, 8), (23, 16)] ∧
    [FieldName.tRasMin, .tRasMax, .tFaw, .wr2pre, .tRc, .wr2rd, .tRp, .tRrd, .tCcd, .tRcd, .tXsr].map place =
      [(5, 0), (14, 8), (21, 16), (30, 24), (6, 0), (5, 0), (4, 0), (11, 8), (19, 16), (28, 24), (11, 0)] ∧
    [FieldName.zqShortNop, .zqLongNop, .disSrxZqcl, .zqResetNop, .csBit0, .bankB0, .bankB1, .bankB2].map place =
      [(9, 0), (26, 16), (30, 30), (29, 20), (4, 0), (4, 0), (12, 8), (20, 16)] ∧
    [FieldName.colB8, .colB9, .colB10, .colB11].map place = [(19, 16), (27, 24), (3, 0), (11, 8)] ∧
    [FieldName.rowB0, .rowB1, .rowB2_10, .rowB11, .rowB12, .rowB13, .rowB14, .rowB15].map place =
      [(3, 0), (11, 8), (19, 16), (27, 24), (3, 0), (11, 8), (19, 16), (27, 24)] ∧
    [FieldName.lprNumEntries, .rdPortPriority, .rdPortAgingEn, .wrPortPriority, .wrPortAgingEn].map place =
      [(12, 8), (9, 0), (12, 12), (9, 0), (12, 12)]) ∧
  (∀ c : Cfg,
    let g : CtrlProg := (withDefaults c).prog
    let u : Training := (withDefaults c).trn
    (withDefaults c).ctrlOff = [] ∧ (withDefaults c).pack = [] ∧
    g.mstrLpddr2 = 0x00000004 ∧ g.mstrBus16 = 0x00001000 ∧ g.derateenVal = 0 ∧
    g.branch.b32M.tmg1Extra = 0 ∧ g.branch.b32M.tmg2Extra = 0 ∧ g.branch.common.tmg1Extra = 0 ∧
    g.branch.common.tmg2Extra = 0 ∧ g.zqctl0Extra = 0 ∧ g.zqctl1Extra = 0 ∧ g.dfiPhyupdReg = .reg .dfiupd2 ∧
    (∀ d, forClass g.addrmap3Extra d = 0) ∧
    g.varpri =
      [.reg (.pcfgqos1 0), .reg (.pcfgwqos0 0), .reg (.pcfgwqos1 0), .reg (.pcfgqos1 1), .reg (.pcfgwqos0 1),
        .reg (.pcfgwqos1 1), .reg (.pcfgqos1 2), .reg (.pcfgwqos0 2), .reg (.pcfgwqos1 2), .reg (.pcfgqos1 3),
        .reg (.pcfgwqos0 3), .reg (.pcfgwqos1 3)] ∧
    u.swctlSp = .ctrl ∧ u.swctlOff = 0x320 ∧ u.swctlHsVal = 0 ∧ u.dfiSp = .ctrl ∧ u.dfiOff = 0x1b0 ∧
    u.dfiInitOnVal = 0x00000020 ∧ u.dfiInitOffVal = 0 ∧ u.trnOffVal = 0 ∧
    [u.resOff0, u.resOff1, u.resOff2, u.resOff3] = [0x3ec, 0x3f0, 0x3f4, 0x3f8] ∧ u.diffMode = .exact ∧
    u.portEn = ⟨⟨.ctrl, 0x490, 1⟩, ⟨.ctrl, 0x540, 1⟩, ⟨.ctrl, 0x5f0, 1⟩, ⟨.ctrl, 0x6a0, 1⟩⟩)

/-- 42 R154, R155, R156, R157, R158 to R174, 43 R190, R202, R205, R210: every segment, command by command, as the rules write
it: which register, in which order, with which value. The CTRL_CFG segment is stated in six consecutive pieces: steps 1 to 5,
6, 7, 8, 9 and 10 with END. -/
def Obligations.SegmentsFollowTheirPhrases : Prop :=
  ∀ (cfg : Cfg) (d : Density),
    let P : ParameterSet := rom cfg d
    let C : ClkRst := cfg.clkRst
    let Y : PhyStatic := cfg.phy
    let G : CtrlProg := cfg.prog
    let T : Training := cfg.trn
    let B : BranchWords := if d = .d32M then G.branch.b32M else G.branch.common
    let k : Nat := G.schedAux.length
    let ctrl : List Instr := segInstrs .ctrlCfg d cfg
    let f (n : FieldName) (v : Half) : Word := fld cfg n (v.setWidth 32)
    let w (r : RegName) (v : Word) : Instr := .wr .ctrl (ctrlOff cfg r) v
    let y (r : RegWrite) : Instr := .wr .phy r.off r.val
    let lane (g : NibbleGroup) : List Instr := [y g.pdDs, y g.pdOdt, y g.puDs, y g.puOdt]
    segInstrs .entryRst d cfg =
      [.wr .sys C.rstOff C.rstAssertVal, .dly C.tRstPulse, .wr .sys C.rstOff C.rstDeassertVal, .endSeg] ∧
    segInstrs .clkSel d cfg =
      [.rmw .clk C.clkSelOff C.clkSelLsb 1 (if d = .d32M then C.clkParent200 else C.clkParent156), .endSeg] ∧
    segInstrs .phyCfg d cfg =
      [y Y.phyType, y Y.phyRl, y Y.phyWl, y Y.pllFbdiv, y Y.pllOut, y Y.pllDiv, y Y.cmdDs, y Y.clkDs, y Y.pullup] ++
        (lane Y.laneA.low ++ lane Y.laneA.high ++ lane Y.laneB.low ++ lane Y.laneB.high) ++
        ((if d = .d32M then [.wr .phy 0 Y.phyW16Val] else []) ++ [.endSeg]) ∧
    ctrl.take 12 =
      [w .mstr (G.mstrLpddr2 ||| (if d = .d32M then G.mstrBus16 else 0) ||| G.mstrBurstRdwr ||| G.mstrActiveRanks),
        w .mrctrl0 G.mrctrl0Val, w .mrctrl1 0, w .derateen G.derateenVal, w .derateint G.derateintVal,
        w .pwrtmg G.pwrtmgVal, w .pwrctl G.pwrctlVal, w .hwlpctl G.hwlpctlVal, w .rfshctl0 G.rfshctl0Val,
        .wr .ctrl G.rfshAux0 0, .wr .ctrl G.rfshAux1 0, .wr .ctrl G.rfshAux2 0] ∧
    (ctrl.drop 12).take 17 =
      [w .rfshtmg (f .rfcMin P.rfcMin ||| f .rfcNomX32 P.rfcNomX32),
        w .init0 (f .preCkeX1024 P.preCkeX1024 ||| f .postCkeX1024 P.postCkeX1024),
        w .init1 B.init1Val,
        w .init2 (f .minStableClockX1 P.minStableClockX1 ||| f .idleAfterResetX32 P.idleAfterResetX32),
        w .init3 (P.emrMr.setWidth 32),
        w .init4 B.init4Val,
        w .init5 (f .devZqinitX32 P.zqinitX32 ||| B.init5Extra),
        w .rankctl B.rankctlVal,
        w .dramtmg0 (f .tRasMin P.tRasMin ||| f .tRasMax P.tRasMax ||| f .tFaw P.tFaw ||| f .wr2pre P.wr2pre),
        w .dramtmg1 (f .tRc P.tRc ||| B.tmg1Extra),
        w .dramtmg2 (f .wr2rd P.wr2rd ||| B.tmg2Extra),
        w .dramtmg3 B.tmg3Val,
        w .dramtmg4 (f .tRp P.tRp ||| f .tRrd P.tRrd ||| f .tCcd P.tCcd ||| f .tRcd P.tRcd),
        w .dramtmg5 B.tmg5Val, w .dramtmg6 B.tmg6Val, w .dramtmg7 B.tmg7Val,
        w .dramtmg14 (f .tXsr P.tXsr)] ∧
    (ctrl.drop 29).take 8 =
      [w .zqctl0 (f .zqShortNop P.zqShortNop ||| f .zqLongNop P.zqLongNop ||| f .disSrxZqcl 1 ||| G.zqctl0Extra),
        w .zqctl1 (f .zqResetNop P.zqResetNop ||| G.zqctl1Extra),
        w .dfitmg0 G.dfitmg0Val, w .dfitmg1 G.dfitmg1Val, w .dfilpcfg0 G.dfilpcfg0Val, w .dfiupd0 G.dfiupd0Val,
        .wr .ctrl (refOff cfg G.dfiPhyupdReg) G.dfiPhyupdVal, w .dfimisc 0] ∧
    (ctrl.drop 37).take 6 =
      [w .addrmap1 (f .bankB0 P.bankB0 ||| f .bankB1 P.bankB1 ||| f .bankB2 P.bankB2),
        w .addrmap3 (f .colB8 P.colB8 ||| f .colB9 P.colB9 ||| forClass G.addrmap3Extra d),
        w .addrmap4 (f .colB10 P.colB10 ||| f .colB11 P.colB11),
        w .addrmap5 (f .rowB0 P.rowB0 ||| f .rowB1 P.rowB1 ||| f .rowB2_10 P.rowB2_10 ||| f .rowB11 P.rowB11),
        w .addrmap6 (f .rowB12 P.rowB12 ||| f .rowB13 P.rowB13 ||| f .rowB14 P.rowB14 ||| f .rowB15 P.rowB15),
        w .addrmap0 (fld cfg .csBit0 (G.csBit0.setWidth 32))] ∧
    (ctrl.drop 43).take (3 + k) =
      [w .odtcfg G.odtcfgVal, w .odtmap 0, w .sched (G.schedBase ||| f .lprNumEntries 0x18)] ++
        G.schedAux.map (fun o => .wr .ctrl o 0) ∧
    ctrl.drop (46 + k) =
      [w (.pcfgr 0) (f .rdPortPriority 0x3ff ||| f .rdPortAgingEn 1),
        w (.pcfgr 1) (f .rdPortPriority 0x20 ||| f .rdPortAgingEn 1),
        w (.pcfgr 2) (f .rdPortPriority 0x0 ||| f .rdPortAgingEn 1),
        w (.pcfgr 3) (f .rdPortPriority 0x4 ||| f .rdPortAgingEn 1),
        w (.pcfgw 0) (f .wrPortPriority 0x3ff ||| f .wrPortAgingEn 1),
        w (.pcfgw 1) (f .wrPortPriority 0xff ||| f .wrPortAgingEn 1),
        w (.pcfgw 2) (f .wrPortPriority 0x3f ||| f .wrPortAgingEn 1),
        w (.pcfgw 3) (f .wrPortPriority 0x5f ||| f .wrPortAgingEn 1)] ++
      [w (.pcfgqos0 0) G.qosMap, w (.pcfgqos0 1) G.qosMap, w (.pcfgqos0 2) G.qosMap, w (.pcfgqos0 3) G.qosMap,
        w .perfhpr1 G.perfhpr1Val, w .perflpr1 G.perflpr1Val, w .perfwr1 G.perfwr1Val] ++
      (G.varpri.map (fun r => .wr .ctrl (refOff cfg r) 0) ++ [.endSeg]) ∧
    segInstrs .trnHs d cfg =
      [.dly T.tHsSettle, .wr .sys C.rstOff C.rstHsVal, .dly T.tHsRst, .wr T.swctlSp T.swctlOff T.swctlHsVal,
        .dly T.tHsSwctl, .wr .phy Y.pllOut.off T.pllHsVal, .dly T.tHsPll, .wr .phy T.hsOdt.off T.hsOdt.val,
        .dly T.tHsOdt, .wr T.dfiSp T.dfiOff T.dfiInitOnVal, .dly T.tHsDfi, .wr T.dfiSp T.dfiOff T.dfiInitOffVal,
        .endSeg] ∧
    segInstrs .trnPulse d cfg =
      [.wr T.trnSp T.trnOff T.trnOnVal, .dly T.tTrnHold, .wr T.trnSp T.trnOff T.trnOffVal, .dly T.tTrnHold, .endSeg] ∧
    segInstrs .trnSample d cfg =
      [.rd 0 .phy T.resOff0, .rd 1 .phy T.resOff1] ++
        ((if d = .d32M then [] else [.rd 2 .phy T.resOff2, .rd 3 .phy T.resOff3]) ++ [.endSeg]) ∧
    segInstrs .portEn d cfg =
      [.wr T.portEn.p0.sp T.portEn.p0.off T.portEn.p0.val, .wr T.portEn.p1.sp T.portEn.p1.off T.portEn.p1.val,
        .wr T.portEn.p2.sp T.portEn.p2.off T.portEn.p2.val, .wr T.portEn.p3.sp T.portEn.p3.off T.portEn.p3.val,
        .endSeg] ∧
    (segInstrs .clkSel d cfg =
        pseudoSel .clk C.clkSelOff C.clkSelLsb 1 (if d = .d32M then C.clkParent200 else C.clkParent156) ++ [.endSeg] ∧
      segInstrs .trnPulse d cfg = pseudoPulseH T.trnSp T.trnOff T.trnOnVal T.trnOffVal T.tTrnHold ++ [.endSeg] ∧
      (segInstrs .trnHs d cfg).drop 9 =
        pseudoPulse T.dfiSp T.dfiOff T.dfiInitOnVal T.dfiInitOffVal T.tHsDfi ++ [.endSeg])

/-- 70 R270, 42 R156, R158: ENTRY_RST reaches only space SYS, CLK_SEL only CLK, PHY_CFG only PHY and CTRL_CFG only CTRL;
ENTRY_RST, PHY_CFG and CTRL_CFG read nothing (42 R176). -/
def Obligations.SegmentsReachTheirSpaces : Prop :=
  ∀ (cfg : Cfg) (d : Density) (i : Instr),
    (i ∈ segInstrs .entryRst d cfg → i = .endSeg ∨ (∃ ns, i = .dly ns) ∨ ∃ off v, i = .wr .sys off v) ∧
    (i ∈ segInstrs .clkSel d cfg → i = .endSeg ∨ ∃ off lsb v, i = .rmw .clk off lsb 1 v) ∧
    (i ∈ segInstrs .phyCfg d cfg → i = .endSeg ∨ ∃ off v, i = .wr .phy off v) ∧
    (i ∈ segInstrs .ctrlCfg d cfg → i = .endSeg ∨ ∃ off v, i = .wr .ctrl off v)

/-! ### Invariants and headline statements -/

/-- The state after reset meets the status invariant, and with any valid CFG the run invariant. -/
def Obligations.ResetMeetsTheInvariants : Prop :=
  StatusInv State.reset ∧ ∀ cfg : Cfg, cfgValid cfg = true → RunInv { State.reset with cfg := cfg }

/-- 10 R22, R25, R26, R29, 60 R233, 43 R214: every step keeps the status invariant, for every CFG, every segment storage
and whatever the environment does. -/
def Obligations.StepKeepsStatusInv : Prop :=
  ∀ s t : State, StatusInv s → step s = .next t → StatusInv t

/-- From a state that meets the status invariant a step always answers a next state: the model's own stops (log 7, its
choice) are never met. That this is so while the block waits, where 00 R12 speaks of no step, is the model's choice too: the
wait is a next state in which only the pins have moved on (log 6). One stop stands in `exec`: END in a state without a
segment, where no step executes it. -/
def Obligations.StepNeverStops : Prop :=
  (∀ s : State, StatusInv s → ∃ t, step s = .next t) ∧
  (∀ s : State, ¬ inSegment s → exec .endSeg s = .fault .endOutsideSegment)

/-- 41 R136, 60 R230, R234, 43 R206: under a valid CFG with the segment storage undamaged every step keeps the run
invariant; so ILLEGAL_CMD and ILLEGAL_STATE do not occur, and `converged` says that the samples satisfy the predicate. -/
def Obligations.StepKeepsRunInv : Prop :=
  ∀ s t : State, RunInv s → step s = .next t → RunInv t

/-- 43 R214, 60 R230: a run that is over shows exactly one outcome; in DONE it is one of two, each with its attempt count. -/
def Obligations.DoneHasOneOfTwoOutcomes : Prop :=
  ∀ s : State, RunInv s → s.state = stateCode .done →
    (outcomeOf s = some .completedConverged ∧ s.converged = true ∧ 1 ≤ s.attempt.toNat ∧ s.attempt.toNat ≤ 100 ∧
      ∃ d, classOf s.dens = some d ∧ pred s.cfg.trn.diffMode s.S (nsamp s.cfg d) = true) ∨
    (outcomeOf s = some .completedNotConverged ∧ s.converged = false ∧ s.attempt.toNat = 100)

/-- 20 R51, R68, 70 R270: under the run invariant an access is aligned and lies in the window its phase reaches: SYS in
ENTRY_RST, CLK in CLK_SEL, PHY in PHY_CFG and TRN_SAMPLE, CTRL in CTRL_CFG. -/
def Obligations.AccessesLieInTheirWindows : Prop :=
  ∀ (s : State) (q : FsmState) (e : Event) (a : Word) (t : State), RunInv s → stateOf s.state = some q →
    step s = .next t → t.trace = s.trace ++ [e] → eventAddr e = some a →
      a.toNat % 4 = 0 ∧ (∃ sp, inWindow s.cfg.platform sp a = true) ∧
      (q = .entryRst → inWindow s.cfg.platform .sys a = true) ∧
      (q = .clkSel → inWindow s.cfg.platform .clk a = true) ∧
      (q = .phyCfg ∨ q = .trnSample → inWindow s.cfg.platform .phy a = true) ∧
      (q = .ctrlCfg → inWindow s.cfg.platform .ctrl a = true)

/-- 43 R213: in a state that is busy, a step in a responsive environment leaves less work than there was. -/
def Obligations.ResponsiveStepReducesWork : Prop :=
  ∀ s t : State, RunInv s → busy s = true → responsive (pinsNow s) = true → step s = .next t → workLeft t < workLeft s

/-- 43 R213: from a busy state, and when everything asked is answered, the block reaches DONE within the bound. -/
def Obligations.BringUpReachesDone : Prop :=
  ∀ s : State, RunInv s → busy s = true → (∀ p ∈ s.pins, responsive p = true) → workLeft s ≤ s.pins.length →
    ∃ k t, k ≤ workLeft s ∧ Sys2Proof.core.run k s = .next t ∧ t.state = stateCode .done ∧ t.done = true ∧ t.err = false

/-- 20 R58, R60, 42 R158: a segment that reads nothing, run from its first command in a responsive environment, emits
exactly the events of its commands, in segment order, and ends in the next state of 41 R134's table. -/
def Obligations.SegmentRunEmitsItsEvents : Prop :=
  ∀ (s : State) (q : FsmState) (d : Density) (body : List Instr), RunInv s → stateOf s.state = some q →
    classOf s.dens = some d → s.step = 0 → s.seq = seqCode .idle → segInstrs q d s.cfg = body ++ [.endSeg] →
    (∀ i ∈ body, readless i = true) → (∀ p ∈ s.pins, responsive p = true) → 2 * body.length + 1 ≤ s.pins.length →
      ∃ t, Sys2Proof.core.run (2 * body.length + 1) s = .next t ∧
        t.trace = s.trace ++ body.flatMap (eventsOf s.cfg 0) ∧ t.step = 0 ∧ t.seq = seqCode .idle ∧ t.S = s.S ∧
        ((q = .entryRst ∧ t.state = stateCode .clkSel) ∨ (q = .phyCfg ∧ t.state = stateCode .ctrlCfg) ∨
          (q = .ctrlCfg ∧ t.state = stateCode .trnHs) ∨ (q = .trnHs ∧ t.state = stateCode .trnPulse) ∨
          (q = .trnPulse ∧ t.state = stateCode .trnSample) ∨ (q = .portEn ∧ t.state = stateCode .done))

/-- 43 R205, 10 R24: the TRN_SAMPLE segment, run from its first command in a responsive environment, reads the first `n` result
registers, `PHY_BASE + RES_OFF[k]`, in slot order and makes no other event, puts the values read into the first `n` sample
registers, leaves the others, and ends in TRN_EVAL. -/
def Obligations.SampleSegmentReadsResults : Prop :=
  ∀ (s : State) (d : Density), RunInv s → s.state = stateCode .trnSample → classOf s.dens = some d → s.step = 0 →
    s.seq = seqCode .idle → (∀ p ∈ s.pins, responsive p = true) → 2 * nsamp s.cfg d + 1 ≤ s.pins.length →
      ∃ t, Sys2Proof.core.run (2 * nsamp s.cfg d + 1) s = .next t ∧ t.state = stateCode .trnEval ∧ t.step = 0 ∧
        (∀ k, k < nsamp s.cfg d → some (sampleAt t.S k) = (s.pins[2 * k + 1]?).map Pins.mRdata) ∧
        (∀ k, nsamp s.cfg d ≤ k → k < 4 → sampleAt t.S k = sampleAt s.S k) ∧
        (let result (off : Off) (k : Nat) : Event :=
          .read (s.cfg.platform.phyBase + off.setWidth 32) (sampleAt t.S k)
         t.trace = s.trace ++
          [result s.cfg.trn.resOff0 0, result s.cfg.trn.resOff1 1, result s.cfg.trn.resOff2 2,
            result s.cfg.trn.resOff3 3].take (nsamp s.cfg d)) ∧
        t.attempt = s.attempt ∧ t.converged = s.converged
end

