-- ==== Sys2Proof/Laws/Codes.lean ====
section
/-! SUPPORT. A code names what it is the code of, and nothing else does. -/

namespace Sys2Proof.Machine

open Sys2Proof.Config

@[simp] theorem stateOf_stateCode (q : FsmState) : stateOf (stateCode q) = some q := by cases q <;> rfl

@[simp] theorem seqOf_seqCode (q : SeqState) : seqOf (seqCode q) = some q := by cases q <;> rfl

@[simp] theorem classOf_classCode (d : Density) : classOf (classCode d) = some d := by cases d <;> rfl

theorem stateOf_eq_some {b : BitVec 4} {q : FsmState} : stateOf b = some q ↔ b = stateCode q := by
  revert b q; intro b q; constructor
  · intro h; revert h; revert b; cases q <;> decide
  · rintro rfl; simp

theorem seqOf_eq_some {b : BitVec 3} {q : SeqState} : seqOf b = some q ↔ b = seqCode q := by
  constructor
  · intro h; revert h; revert b; cases q <;> decide
  · rintro rfl; simp

theorem classOf_eq_some {b : BitVec 3} {d : Density} : classOf b = some d ↔ b = classCode d := by
  constructor
  · intro h; revert h; revert b; cases d <;> decide
  · rintro rfl; simp

@[simp] theorem stateCode_inj {p q : FsmState} : stateCode p = stateCode q ↔ p = q := by
  constructor
  · intro h; have := congrArg stateOf h; simpa using this
  · rintro rfl; rfl

@[simp] theorem seqCode_inj {p q : SeqState} : seqCode p = seqCode q ↔ p = q := by
  constructor
  · intro h; have := congrArg seqOf h; simpa using this
  · rintro rfl; rfl

@[simp] theorem errCodeBits_ne_zero (e : ErrCode) : errCodeBits e ≠ 0 := by cases e <;> decide

end Sys2Proof.Machine
end

