-- ==== Sys2Proof/Laws/Decode.lean ====
section
/-! SUPPORT. The fields of an assembled word, the codes of the spaces, and how the slices of the legality test relate to
the fields. -/

namespace Sys2Proof

@[simp] theorem spaceOfCode_spaceCode (sp : Space) : spaceOfCode (spaceCode sp) = sp := by cases sp <;> rfl

@[simp] theorem spaceCode_spaceOfCode (b : BitVec 2) : spaceCode (spaceOfCode b) = b := by revert b; decide

section Fields

variable (op : BitVec 4) (sp slot : BitVec 2) (off : Off) (lsb : BitVec 5) (wm1 : BitVec 3) (imm : Word)

@[simp] theorem cmdOp_assembleWord : cmdOp (assembleWord op sp slot off lsb wm1 imm) = op := by
  ext i hi; simp [cmdOp, assembleWord]; grind

@[simp] theorem cmdSp_assembleWord : cmdSp (assembleWord op sp slot off lsb wm1 imm) = sp := by
  ext i hi; simp [cmdSp, assembleWord]; grind

@[simp] theorem cmdSlot_assembleWord : cmdSlot (assembleWord op sp slot off lsb wm1 imm) = slot := by
  ext i hi; simp [cmdSlot, assembleWord]; grind

@[simp] theorem cmdOff_assembleWord : cmdOff (assembleWord op sp slot off lsb wm1 imm) = off := by
  ext i hi; simp [cmdOff, assembleWord]; grind

@[simp] theorem cmdLsb_assembleWord : cmdLsb (assembleWord op sp slot off lsb wm1 imm) = lsb := by
  ext i hi; simp [cmdLsb, assembleWord]; grind

@[simp] theorem cmdWm1_assembleWord : cmdWm1 (assembleWord op sp slot off lsb wm1 imm) = wm1 := by
  ext i hi; simp [cmdWm1, assembleWord]; grind

@[simp] theorem cmdImm_assembleWord : cmdImm (assembleWord op sp slot off lsb wm1 imm) = imm := by
  ext i hi; simp [cmdImm, assembleWord]; grind

end Fields

/-- A word is its fields: no bit of it lies outside them (R81). -/
theorem assembleWord_fields (c : Cmd) :
    assembleWord (cmdOp c) (cmdSp c) (cmdSlot c) (cmdOff c) (cmdLsb c) (cmdWm1 c) (cmdImm c) = c := by
  ext i hi
  simp [cmdOp, cmdSp, cmdSlot, cmdOff, cmdLsb, cmdWm1, cmdImm, assembleWord]
  grind

/-! ### R84's slices -/

/-- `c[39:32] = 0` says that `lsb` and `wm1` are 0. -/
theorem unused_lsb_wm1 (c : Cmd) : c.extractLsb' 32 8 = 0 ↔ cmdLsb c = 0 ∧ cmdWm1 c = 0 := by
  have h : c.extractLsb' 32 8 = cmdLsb c ++ cmdWm1 c := by
    ext i hi; simp [cmdLsb, cmdWm1]; grind
  rw [h]
  generalize cmdLsb c = a
  generalize cmdWm1 c = b
  revert a b; decide

/-- `off[1:0] = 0` is the alignment of the offset. -/
theorem aligned_slice (c : Cmd) : c.extractLsb' 40 2 = 0 ↔ offAligned (cmdOff c) = true := by
  simp only [offAligned, cmdOff, beq_iff_eq, ← BitVec.toNat_inj, BitVec.extractLsb'_toNat]
  simp only [Nat.shiftRight_eq_div_pow, BitVec.ofNat_eq_ofNat, BitVec.toNat_ofNat]
  omega

/-- The operation of a command's word (R82). -/
theorem cmdOp_encode (i : Instr) :
    cmdOp (encode i) = match i with
      | .wr _ _ _ => 0x1
      | .rd _ _ _ => 0x2
      | .rmw _ _ _ _ _ => 0x3
      | .dly _ => 0x4
      | .endSeg => 0xF := by
  cases i <;> simp [encode]

end Sys2Proof
end

