-- ==== Sys2Proof/Laws/State.lean ====
section
/-! SUPPORT. What each update of the state does to each field: one lemma per field per update. -/

namespace Sys2Proof.Machine

open Sys2Proof.Config

/-! ### takePins -/

@[simp] theorem takePins_state (s : State) : (takePins s).state = s.state := rfl
@[simp] theorem takePins_step (s : State) : (takePins s).step = s.step := rfl
@[simp] theorem takePins_dens (s : State) : (takePins s).dens = s.dens := rfl
@[simp] theorem takePins_S (s : State) : (takePins s).S = s.S := rfl
@[simp] theorem takePins_attempt (s : State) : (takePins s).attempt = s.attempt := rfl
@[simp] theorem takePins_converged (s : State) : (takePins s).converged = s.converged := rfl
@[simp] theorem takePins_done (s : State) : (takePins s).done = s.done := rfl
@[simp] theorem takePins_err (s : State) : (takePins s).err = s.err := rfl
@[simp] theorem takePins_errCode (s : State) : (takePins s).errCode = s.errCode := rfl
@[simp] theorem takePins_errState (s : State) : (takePins s).errState = s.errState := rfl
@[simp] theorem takePins_errStep (s : State) : (takePins s).errStep = s.errStep := rfl
@[simp] theorem takePins_seq (s : State) : (takePins s).seq = s.seq := rfl
@[simp] theorem takePins_cur (s : State) : (takePins s).cur = s.cur := rfl
@[simp] theorem takePins_rmwOld (s : State) : (takePins s).rmwOld = s.rmwOld := rfl
@[simp] theorem takePins_cfg (s : State) : (takePins s).cfg = s.cfg := rfl
@[simp] theorem takePins_segPatch (s : State) : (takePins s).segPatch = s.segPatch := rfl
@[simp] theorem takePins_pins (s : State) : (takePins s).pins = s.pins.tail := rfl
@[simp] theorem takePins_tick (s : State) : (takePins s).tick = s.tick + 1 := rfl
@[simp] theorem takePins_trace (s : State) : (takePins s).trace = s.trace := rfl
@[simp] theorem takePins_withdrawn (s : State) : (takePins s).withdrawn = s.withdrawn := rfl

/-! ### emit -/

@[simp] theorem emit_state (e : Event) (s : State) : (emit e s).state = s.state := rfl
@[simp] theorem emit_step (e : Event) (s : State) : (emit e s).step = s.step := rfl
@[simp] theorem emit_dens (e : Event) (s : State) : (emit e s).dens = s.dens := rfl
@[simp] theorem emit_S (e : Event) (s : State) : (emit e s).S = s.S := rfl
@[simp] theorem emit_attempt (e : Event) (s : State) : (emit e s).attempt = s.attempt := rfl
@[simp] theorem emit_converged (e : Event) (s : State) : (emit e s).converged = s.converged := rfl
@[simp] theorem emit_done (e : Event) (s : State) : (emit e s).done = s.done := rfl
@[simp] theorem emit_err (e : Event) (s : State) : (emit e s).err = s.err := rfl
@[simp] theorem emit_errCode (e : Event) (s : State) : (emit e s).errCode = s.errCode := rfl
@[simp] theorem emit_errState (e : Event) (s : State) : (emit e s).errState = s.errState := rfl
@[simp] theorem emit_errStep (e : Event) (s : State) : (emit e s).errStep = s.errStep := rfl
@[simp] theorem emit_seq (e : Event) (s : State) : (emit e s).seq = s.seq := rfl
@[simp] theorem emit_cur (e : Event) (s : State) : (emit e s).cur = s.cur := rfl
@[simp] theorem emit_rmwOld (e : Event) (s : State) : (emit e s).rmwOld = s.rmwOld := rfl
@[simp] theorem emit_cfg (e : Event) (s : State) : (emit e s).cfg = s.cfg := rfl
@[simp] theorem emit_segPatch (e : Event) (s : State) : (emit e s).segPatch = s.segPatch := rfl
@[simp] theorem emit_pins (e : Event) (s : State) : (emit e s).pins = s.pins := rfl
@[simp] theorem emit_tick (e : Event) (s : State) : (emit e s).tick = s.tick := rfl
@[simp] theorem emit_trace (e : Event) (s : State) : (emit e s).trace = s.trace ++ [e] := rfl
@[simp] theorem emit_withdrawn (e : Event) (s : State) : (emit e s).withdrawn = s.withdrawn := rfl

/-! ### setCur -/

@[simp] theorem setCur_state (c : Cmd) (s : State) : (setCur c s).state = s.state := rfl
@[simp] theorem setCur_step (c : Cmd) (s : State) : (setCur c s).step = s.step := rfl
@[simp] theorem setCur_dens (c : Cmd) (s : State) : (setCur c s).dens = s.dens := rfl
@[simp] theorem setCur_S (c : Cmd) (s : State) : (setCur c s).S = s.S := rfl
@[simp] theorem setCur_attempt (c : Cmd) (s : State) : (setCur c s).attempt = s.attempt := rfl
@[simp] theorem setCur_converged (c : Cmd) (s : State) : (setCur c s).converged = s.converged := rfl
@[simp] theorem setCur_done (c : Cmd) (s : State) : (setCur c s).done = s.done := rfl
@[simp] theorem setCur_err (c : Cmd) (s : State) : (setCur c s).err = s.err := rfl
@[simp] theorem setCur_errCode (c : Cmd) (s : State) : (setCur c s).errCode = s.errCode := rfl
@[simp] theorem setCur_errState (c : Cmd) (s : State) : (setCur c s).errState = s.errState := rfl
@[simp] theorem setCur_errStep (c : Cmd) (s : State) : (setCur c s).errStep = s.errStep := rfl
@[simp] theorem setCur_seq (c : Cmd) (s : State) : (setCur c s).seq = s.seq := rfl
@[simp] theorem setCur_cur (c : Cmd) (s : State) : (setCur c s).cur = c := rfl
@[simp] theorem setCur_rmwOld (c : Cmd) (s : State) : (setCur c s).rmwOld = s.rmwOld := rfl
@[simp] theorem setCur_cfg (c : Cmd) (s : State) : (setCur c s).cfg = s.cfg := rfl
@[simp] theorem setCur_segPatch (c : Cmd) (s : State) : (setCur c s).segPatch = s.segPatch := rfl
@[simp] theorem setCur_pins (c : Cmd) (s : State) : (setCur c s).pins = s.pins := rfl
@[simp] theorem setCur_tick (c : Cmd) (s : State) : (setCur c s).tick = s.tick := rfl
@[simp] theorem setCur_trace (c : Cmd) (s : State) : (setCur c s).trace = s.trace := rfl
@[simp] theorem setCur_withdrawn (c : Cmd) (s : State) : (setCur c s).withdrawn = s.withdrawn := rfl

/-! ### advance -/

@[simp] theorem advance_state (s : State) : (advance s).state = s.state := rfl
@[simp] theorem advance_step (s : State) : (advance s).step = nextStep s := rfl
@[simp] theorem advance_dens (s : State) : (advance s).dens = s.dens := rfl
@[simp] theorem advance_S (s : State) : (advance s).S = s.S := rfl
@[simp] theorem advance_attempt (s : State) : (advance s).attempt = s.attempt := rfl
@[simp] theorem advance_converged (s : State) : (advance s).converged = s.converged := rfl
@[simp] theorem advance_done (s : State) : (advance s).done = s.done := rfl
@[simp] theorem advance_err (s : State) : (advance s).err = s.err := rfl
@[simp] theorem advance_errCode (s : State) : (advance s).errCode = s.errCode := rfl
@[simp] theorem advance_errState (s : State) : (advance s).errState = s.errState := rfl
@[simp] theorem advance_errStep (s : State) : (advance s).errStep = s.errStep := rfl
@[simp] theorem advance_seq (s : State) : (advance s).seq = seqCode .idle := rfl
@[simp] theorem advance_cur (s : State) : (advance s).cur = s.cur := rfl
@[simp] theorem advance_rmwOld (s : State) : (advance s).rmwOld = s.rmwOld := rfl
@[simp] theorem advance_cfg (s : State) : (advance s).cfg = s.cfg := rfl
@[simp] theorem advance_segPatch (s : State) : (advance s).segPatch = s.segPatch := rfl
@[simp] theorem advance_pins (s : State) : (advance s).pins = s.pins := rfl
@[simp] theorem advance_tick (s : State) : (advance s).tick = s.tick := rfl
@[simp] theorem advance_trace (s : State) : (advance s).trace = s.trace := rfl
@[simp] theorem advance_withdrawn (s : State) : (advance s).withdrawn = s.withdrawn := rfl

/-! ### enter -/

@[simp] theorem enter_state (q : FsmState) (s : State) : (enter q s).state = stateCode q := rfl
@[simp] theorem enter_step (q : FsmState) (s : State) : (enter q s).step = 0 := rfl
@[simp] theorem enter_dens (q : FsmState) (s : State) : (enter q s).dens = s.dens := rfl
@[simp] theorem enter_S (q : FsmState) (s : State) : (enter q s).S = s.S := rfl
@[simp] theorem enter_attempt (q : FsmState) (s : State) : (enter q s).attempt = s.attempt := rfl
@[simp] theorem enter_converged (q : FsmState) (s : State) : (enter q s).converged = s.converged := rfl
@[simp] theorem enter_done (q : FsmState) (s : State) : (enter q s).done = s.done := rfl
@[simp] theorem enter_err (q : FsmState) (s : State) : (enter q s).err = s.err := rfl
@[simp] theorem enter_errCode (q : FsmState) (s : State) : (enter q s).errCode = s.errCode := rfl
@[simp] theorem enter_errState (q : FsmState) (s : State) : (enter q s).errState = s.errState := rfl
@[simp] theorem enter_errStep (q : FsmState) (s : State) : (enter q s).errStep = s.errStep := rfl
@[simp] theorem enter_seq (q : FsmState) (s : State) : (enter q s).seq = s.seq := rfl
@[simp] theorem enter_cur (q : FsmState) (s : State) : (enter q s).cur = s.cur := rfl
@[simp] theorem enter_rmwOld (q : FsmState) (s : State) : (enter q s).rmwOld = s.rmwOld := rfl
@[simp] theorem enter_cfg (q : FsmState) (s : State) : (enter q s).cfg = s.cfg := rfl
@[simp] theorem enter_segPatch (q : FsmState) (s : State) : (enter q s).segPatch = s.segPatch := rfl
@[simp] theorem enter_pins (q : FsmState) (s : State) : (enter q s).pins = s.pins := rfl
@[simp] theorem enter_tick (q : FsmState) (s : State) : (enter q s).tick = s.tick := rfl
@[simp] theorem enter_trace (q : FsmState) (s : State) : (enter q s).trace = s.trace := rfl
@[simp] theorem enter_withdrawn (q : FsmState) (s : State) : (enter q s).withdrawn = s.withdrawn := rfl

/-! ### enterTrnPulse -/

@[simp] theorem enterTrnPulse_state (s : State) : (enterTrnPulse s).state = stateCode .trnPulse := rfl
@[simp] theorem enterTrnPulse_step (s : State) : (enterTrnPulse s).step = 0 := rfl
@[simp] theorem enterTrnPulse_dens (s : State) : (enterTrnPulse s).dens = s.dens := rfl
@[simp] theorem enterTrnPulse_S (s : State) : (enterTrnPulse s).S = s.S := rfl
@[simp] theorem enterTrnPulse_attempt (s : State) : (enterTrnPulse s).attempt = nextAttempt s := rfl
@[simp] theorem enterTrnPulse_converged (s : State) : (enterTrnPulse s).converged = s.converged := rfl
@[simp] theorem enterTrnPulse_done (s : State) : (enterTrnPulse s).done = s.done := rfl
@[simp] theorem enterTrnPulse_err (s : State) : (enterTrnPulse s).err = s.err := rfl
@[simp] theorem enterTrnPulse_errCode (s : State) : (enterTrnPulse s).errCode = s.errCode := rfl
@[simp] theorem enterTrnPulse_errState (s : State) : (enterTrnPulse s).errState = s.errState := rfl
@[simp] theorem enterTrnPulse_errStep (s : State) : (enterTrnPulse s).errStep = s.errStep := rfl
@[simp] theorem enterTrnPulse_seq (s : State) : (enterTrnPulse s).seq = s.seq := rfl
@[simp] theorem enterTrnPulse_cur (s : State) : (enterTrnPulse s).cur = s.cur := rfl
@[simp] theorem enterTrnPulse_rmwOld (s : State) : (enterTrnPulse s).rmwOld = s.rmwOld := rfl
@[simp] theorem enterTrnPulse_cfg (s : State) : (enterTrnPulse s).cfg = s.cfg := rfl
@[simp] theorem enterTrnPulse_segPatch (s : State) : (enterTrnPulse s).segPatch = s.segPatch := rfl
@[simp] theorem enterTrnPulse_pins (s : State) : (enterTrnPulse s).pins = s.pins := rfl
@[simp] theorem enterTrnPulse_tick (s : State) : (enterTrnPulse s).tick = s.tick := rfl
@[simp] theorem enterTrnPulse_trace (s : State) : (enterTrnPulse s).trace = s.trace := rfl
@[simp] theorem enterTrnPulse_withdrawn (s : State) : (enterTrnPulse s).withdrawn = s.withdrawn := rfl

/-! ### withdraw -/

@[simp] theorem withdraw_state (s : State) : (withdraw s).state = s.state := by unfold withdraw; split <;> rfl
@[simp] theorem withdraw_step (s : State) : (withdraw s).step = s.step := by unfold withdraw; split <;> rfl
@[simp] theorem withdraw_dens (s : State) : (withdraw s).dens = s.dens := by unfold withdraw; split <;> rfl
@[simp] theorem withdraw_S (s : State) : (withdraw s).S = s.S := by unfold withdraw; split <;> rfl
@[simp] theorem withdraw_attempt (s : State) : (withdraw s).attempt = s.attempt := by unfold withdraw; split <;> rfl
@[simp] theorem withdraw_converged (s : State) : (withdraw s).converged = s.converged := by unfold withdraw; split <;> rfl
@[simp] theorem withdraw_done (s : State) : (withdraw s).done = s.done := by unfold withdraw; split <;> rfl
@[simp] theorem withdraw_err (s : State) : (withdraw s).err = s.err := by unfold withdraw; split <;> rfl
@[simp] theorem withdraw_errCode (s : State) : (withdraw s).errCode = s.errCode := by unfold withdraw; split <;> rfl
@[simp] theorem withdraw_errState (s : State) : (withdraw s).errState = s.errState := by unfold withdraw; split <;> rfl
@[simp] theorem withdraw_errStep (s : State) : (withdraw s).errStep = s.errStep := by unfold withdraw; split <;> rfl
@[simp] theorem withdraw_seq (s : State) : (withdraw s).seq = s.seq := by unfold withdraw; split <;> rfl
@[simp] theorem withdraw_cur (s : State) : (withdraw s).cur = s.cur := by unfold withdraw; split <;> rfl
@[simp] theorem withdraw_rmwOld (s : State) : (withdraw s).rmwOld = s.rmwOld := by unfold withdraw; split <;> rfl
@[simp] theorem withdraw_cfg (s : State) : (withdraw s).cfg = s.cfg := by unfold withdraw; split <;> rfl
@[simp] theorem withdraw_segPatch (s : State) : (withdraw s).segPatch = s.segPatch := by unfold withdraw; split <;> rfl
@[simp] theorem withdraw_pins (s : State) : (withdraw s).pins = s.pins := by unfold withdraw; split <;> rfl
@[simp] theorem withdraw_tick (s : State) : (withdraw s).tick = s.tick := by unfold withdraw; split <;> rfl
@[simp] theorem withdraw_trace (s : State) : (withdraw s).trace = s.trace := by unfold withdraw; split <;> rfl

/-! ### raiseErr -/

@[simp] theorem raiseErr_state (e : ErrCode) (s : State) : (raiseErr e s).state = stateCode .error := rfl
@[simp] theorem raiseErr_step (e : ErrCode) (s : State) : (raiseErr e s).step = 0 := rfl
@[simp] theorem raiseErr_dens (e : ErrCode) (s : State) : (raiseErr e s).dens = s.dens := withdraw_dens s
@[simp] theorem raiseErr_S (e : ErrCode) (s : State) : (raiseErr e s).S = s.S := withdraw_S s
@[simp] theorem raiseErr_attempt (e : ErrCode) (s : State) : (raiseErr e s).attempt = s.attempt := withdraw_attempt s
@[simp] theorem raiseErr_converged (e : ErrCode) (s : State) : (raiseErr e s).converged = s.converged := withdraw_converged s
@[simp] theorem raiseErr_done (e : ErrCode) (s : State) : (raiseErr e s).done = s.done := withdraw_done s
@[simp] theorem raiseErr_err (e : ErrCode) (s : State) : (raiseErr e s).err = true := rfl
@[simp] theorem raiseErr_errCode (e : ErrCode) (s : State) : (raiseErr e s).errCode = errCodeBits e := rfl
@[simp] theorem raiseErr_errState (e : ErrCode) (s : State) : (raiseErr e s).errState = s.state := rfl
@[simp] theorem raiseErr_errStep (e : ErrCode) (s : State) : (raiseErr e s).errStep = s.step := rfl
@[simp] theorem raiseErr_seq (e : ErrCode) (s : State) : (raiseErr e s).seq = seqCode .idle := rfl
@[simp] theorem raiseErr_cur (e : ErrCode) (s : State) : (raiseErr e s).cur = s.cur := withdraw_cur s
@[simp] theorem raiseErr_rmwOld (e : ErrCode) (s : State) : (raiseErr e s).rmwOld = s.rmwOld := withdraw_rmwOld s
@[simp] theorem raiseErr_cfg (e : ErrCode) (s : State) : (raiseErr e s).cfg = s.cfg := withdraw_cfg s
@[simp] theorem raiseErr_segPatch (e : ErrCode) (s : State) : (raiseErr e s).segPatch = s.segPatch := withdraw_segPatch s
@[simp] theorem raiseErr_pins (e : ErrCode) (s : State) : (raiseErr e s).pins = s.pins := withdraw_pins s
@[simp] theorem raiseErr_tick (e : ErrCode) (s : State) : (raiseErr e s).tick = s.tick := withdraw_tick s
@[simp] theorem raiseErr_trace (e : ErrCode) (s : State) : (raiseErr e s).trace = s.trace := withdraw_trace s
@[simp] theorem raiseErr_withdrawn (e : ErrCode) (s : State) : (raiseErr e s).withdrawn = (withdraw s).withdrawn := rfl

/-! ### resetEdge -/

@[simp] theorem resetEdge_state (s : State) : (resetEdge s).state = stateCode .idle := rfl
@[simp] theorem resetEdge_step (s : State) : (resetEdge s).step = 0 := rfl
@[simp] theorem resetEdge_dens (s : State) : (resetEdge s).dens = 0 := rfl
@[simp] theorem resetEdge_S (s : State) : (resetEdge s).S = ⟨0, 0, 0, 0⟩ := rfl
@[simp] theorem resetEdge_attempt (s : State) : (resetEdge s).attempt = 0 := rfl
@[simp] theorem resetEdge_converged (s : State) : (resetEdge s).converged = false := rfl
@[simp] theorem resetEdge_done (s : State) : (resetEdge s).done = false := rfl
@[simp] theorem resetEdge_err (s : State) : (resetEdge s).err = false := rfl
@[simp] theorem resetEdge_errCode (s : State) : (resetEdge s).errCode = 0 := rfl
@[simp] theorem resetEdge_errState (s : State) : (resetEdge s).errState = 0 := rfl
@[simp] theorem resetEdge_errStep (s : State) : (resetEdge s).errStep = 0 := rfl
@[simp] theorem resetEdge_seq (s : State) : (resetEdge s).seq = seqCode .idle := rfl
@[simp] theorem resetEdge_cur (s : State) : (resetEdge s).cur = 0 := rfl
@[simp] theorem resetEdge_rmwOld (s : State) : (resetEdge s).rmwOld = 0 := rfl
@[simp] theorem resetEdge_cfg (s : State) : (resetEdge s).cfg = s.cfg := rfl
@[simp] theorem resetEdge_segPatch (s : State) : (resetEdge s).segPatch = s.segPatch := rfl
@[simp] theorem resetEdge_pins (s : State) : (resetEdge s).pins = s.pins := rfl
@[simp] theorem resetEdge_tick (s : State) : (resetEdge s).tick = s.tick := rfl
@[simp] theorem resetEdge_trace (s : State) : (resetEdge s).trace = s.trace := rfl
@[simp] theorem resetEdge_withdrawn (s : State) : (resetEdge s).withdrawn = (withdraw s).withdrawn := rfl

/-! ### acceptStart -/

@[simp] theorem acceptStart_state (d : BitVec 3) (s : State) : (acceptStart d s).state = stateCode .entryRst := rfl
@[simp] theorem acceptStart_step (d : BitVec 3) (s : State) : (acceptStart d s).step = 0 := rfl
@[simp] theorem acceptStart_dens (d : BitVec 3) (s : State) : (acceptStart d s).dens = d := rfl
@[simp] theorem acceptStart_S (d : BitVec 3) (s : State) : (acceptStart d s).S = s.S := rfl
@[simp] theorem acceptStart_attempt (d : BitVec 3) (s : State) : (acceptStart d s).attempt = 0 := rfl
@[simp] theorem acceptStart_converged (d : BitVec 3) (s : State) : (acceptStart d s).converged = false := rfl
@[simp] theorem acceptStart_done (d : BitVec 3) (s : State) : (acceptStart d s).done = s.done := rfl
@[simp] theorem acceptStart_err (d : BitVec 3) (s : State) : (acceptStart d s).err = s.err := rfl
@[simp] theorem acceptStart_errCode (d : BitVec 3) (s : State) : (acceptStart d s).errCode = s.errCode := rfl
@[simp] theorem acceptStart_errState (d : BitVec 3) (s : State) : (acceptStart d s).errState = s.errState := rfl
@[simp] theorem acceptStart_errStep (d : BitVec 3) (s : State) : (acceptStart d s).errStep = s.errStep := rfl
@[simp] theorem acceptStart_seq (d : BitVec 3) (s : State) : (acceptStart d s).seq = s.seq := rfl
@[simp] theorem acceptStart_cur (d : BitVec 3) (s : State) : (acceptStart d s).cur = s.cur := rfl
@[simp] theorem acceptStart_rmwOld (d : BitVec 3) (s : State) : (acceptStart d s).rmwOld = s.rmwOld := rfl
@[simp] theorem acceptStart_cfg (d : BitVec 3) (s : State) : (acceptStart d s).cfg = s.cfg := rfl
@[simp] theorem acceptStart_segPatch (d : BitVec 3) (s : State) : (acceptStart d s).segPatch = s.segPatch := rfl
@[simp] theorem acceptStart_pins (d : BitVec 3) (s : State) : (acceptStart d s).pins = s.pins := rfl
@[simp] theorem acceptStart_tick (d : BitVec 3) (s : State) : (acceptStart d s).tick = s.tick := rfl
@[simp] theorem acceptStart_trace (d : BitVec 3) (s : State) : (acceptStart d s).trace = s.trace := rfl
@[simp] theorem acceptStart_withdrawn (d : BitVec 3) (s : State) : (acceptStart d s).withdrawn = s.withdrawn := rfl

/-! ### finish -/

@[simp] theorem finish_state (s : State) : (finish s).state = stateCode .done := rfl
@[simp] theorem finish_step (s : State) : (finish s).step = 0 := rfl
@[simp] theorem finish_dens (s : State) : (finish s).dens = s.dens := rfl
@[simp] theorem finish_S (s : State) : (finish s).S = s.S := rfl
@[simp] theorem finish_attempt (s : State) : (finish s).attempt = s.attempt := rfl
@[simp] theorem finish_converged (s : State) : (finish s).converged = s.converged := rfl
@[simp] theorem finish_done (s : State) : (finish s).done = true := rfl
@[simp] theorem finish_err (s : State) : (finish s).err = s.err := rfl
@[simp] theorem finish_errCode (s : State) : (finish s).errCode = s.errCode := rfl
@[simp] theorem finish_errState (s : State) : (finish s).errState = s.errState := rfl
@[simp] theorem finish_errStep (s : State) : (finish s).errStep = s.errStep := rfl
@[simp] theorem finish_seq (s : State) : (finish s).seq = s.seq := rfl
@[simp] theorem finish_cur (s : State) : (finish s).cur = s.cur := rfl
@[simp] theorem finish_rmwOld (s : State) : (finish s).rmwOld = s.rmwOld := rfl
@[simp] theorem finish_cfg (s : State) : (finish s).cfg = s.cfg := rfl
@[simp] theorem finish_segPatch (s : State) : (finish s).segPatch = s.segPatch := rfl
@[simp] theorem finish_pins (s : State) : (finish s).pins = s.pins := rfl
@[simp] theorem finish_tick (s : State) : (finish s).tick = s.tick := rfl
@[simp] theorem finish_trace (s : State) : (finish s).trace = s.trace := rfl
@[simp] theorem finish_withdrawn (s : State) : (finish s).withdrawn = s.withdrawn := rfl

/-! ### converge -/

@[simp] theorem converge_state (s : State) : (converge s).state = stateCode .portEn := rfl
@[simp] theorem converge_step (s : State) : (converge s).step = 0 := rfl
@[simp] theorem converge_dens (s : State) : (converge s).dens = s.dens := rfl
@[simp] theorem converge_S (s : State) : (converge s).S = s.S := rfl
@[simp] theorem converge_attempt (s : State) : (converge s).attempt = s.attempt := rfl
@[simp] theorem converge_converged (s : State) : (converge s).converged = true := rfl
@[simp] theorem converge_done (s : State) : (converge s).done = s.done := rfl
@[simp] theorem converge_err (s : State) : (converge s).err = s.err := rfl
@[simp] theorem converge_errCode (s : State) : (converge s).errCode = s.errCode := rfl
@[simp] theorem converge_errState (s : State) : (converge s).errState = s.errState := rfl
@[simp] theorem converge_errStep (s : State) : (converge s).errStep = s.errStep := rfl
@[simp] theorem converge_seq (s : State) : (converge s).seq = s.seq := rfl
@[simp] theorem converge_cur (s : State) : (converge s).cur = s.cur := rfl
@[simp] theorem converge_rmwOld (s : State) : (converge s).rmwOld = s.rmwOld := rfl
@[simp] theorem converge_cfg (s : State) : (converge s).cfg = s.cfg := rfl
@[simp] theorem converge_segPatch (s : State) : (converge s).segPatch = s.segPatch := rfl
@[simp] theorem converge_pins (s : State) : (converge s).pins = s.pins := rfl
@[simp] theorem converge_tick (s : State) : (converge s).tick = s.tick := rfl
@[simp] theorem converge_trace (s : State) : (converge s).trace = s.trace := rfl
@[simp] theorem converge_withdrawn (s : State) : (converge s).withdrawn = s.withdrawn := rfl

/-! ### issued -/

@[simp] theorem issued_state (i : Instr) (q : SeqState) (s : State) : (issued i q s).state = s.state := rfl
@[simp] theorem issued_step (i : Instr) (q : SeqState) (s : State) : (issued i q s).step = s.step := rfl
@[simp] theorem issued_dens (i : Instr) (q : SeqState) (s : State) : (issued i q s).dens = s.dens := rfl
@[simp] theorem issued_S (i : Instr) (q : SeqState) (s : State) : (issued i q s).S = s.S := rfl
@[simp] theorem issued_attempt (i : Instr) (q : SeqState) (s : State) : (issued i q s).attempt = s.attempt := rfl
@[simp] theorem issued_converged (i : Instr) (q : SeqState) (s : State) : (issued i q s).converged = s.converged := rfl
@[simp] theorem issued_done (i : Instr) (q : SeqState) (s : State) : (issued i q s).done = s.done := rfl
@[simp] theorem issued_err (i : Instr) (q : SeqState) (s : State) : (issued i q s).err = s.err := rfl
@[simp] theorem issued_errCode (i : Instr) (q : SeqState) (s : State) : (issued i q s).errCode = s.errCode := rfl
@[simp] theorem issued_errState (i : Instr) (q : SeqState) (s : State) : (issued i q s).errState = s.errState := rfl
@[simp] theorem issued_errStep (i : Instr) (q : SeqState) (s : State) : (issued i q s).errStep = s.errStep := rfl
@[simp] theorem issued_seq (i : Instr) (q : SeqState) (s : State) : (issued i q s).seq = seqCode q := rfl
@[simp] theorem issued_cur (i : Instr) (q : SeqState) (s : State) : (issued i q s).cur = encode i := rfl
@[simp] theorem issued_rmwOld (i : Instr) (q : SeqState) (s : State) : (issued i q s).rmwOld = s.rmwOld := rfl
@[simp] theorem issued_cfg (i : Instr) (q : SeqState) (s : State) : (issued i q s).cfg = s.cfg := rfl
@[simp] theorem issued_segPatch (i : Instr) (q : SeqState) (s : State) : (issued i q s).segPatch = s.segPatch := rfl
@[simp] theorem issued_pins (i : Instr) (q : SeqState) (s : State) : (issued i q s).pins = s.pins := rfl
@[simp] theorem issued_tick (i : Instr) (q : SeqState) (s : State) : (issued i q s).tick = s.tick := rfl
@[simp] theorem issued_trace (i : Instr) (q : SeqState) (s : State) : (issued i q s).trace = s.trace := rfl
@[simp] theorem issued_withdrawn (i : Instr) (q : SeqState) (s : State) : (issued i q s).withdrawn = s.withdrawn := rfl

/-! ### completeWr -/

@[simp] theorem completeWr_state (s : State) : (completeWr s).state = s.state := rfl
@[simp] theorem completeWr_step (s : State) : (completeWr s).step = nextStep s := rfl
@[simp] theorem completeWr_dens (s : State) : (completeWr s).dens = s.dens := rfl
@[simp] theorem completeWr_S (s : State) : (completeWr s).S = s.S := rfl
@[simp] theorem completeWr_attempt (s : State) : (completeWr s).attempt = s.attempt := rfl
@[simp] theorem completeWr_converged (s : State) : (completeWr s).converged = s.converged := rfl
@[simp] theorem completeWr_done (s : State) : (completeWr s).done = s.done := rfl
@[simp] theorem completeWr_err (s : State) : (completeWr s).err = s.err := rfl
@[simp] theorem completeWr_errCode (s : State) : (completeWr s).errCode = s.errCode := rfl
@[simp] theorem completeWr_errState (s : State) : (completeWr s).errState = s.errState := rfl
@[simp] theorem completeWr_errStep (s : State) : (completeWr s).errStep = s.errStep := rfl
@[simp] theorem completeWr_seq (s : State) : (completeWr s).seq = seqCode .idle := rfl
@[simp] theorem completeWr_cur (s : State) : (completeWr s).cur = s.cur := rfl
@[simp] theorem completeWr_rmwOld (s : State) : (completeWr s).rmwOld = s.rmwOld := rfl
@[simp] theorem completeWr_cfg (s : State) : (completeWr s).cfg = s.cfg := rfl
@[simp] theorem completeWr_segPatch (s : State) : (completeWr s).segPatch = s.segPatch := rfl
@[simp] theorem completeWr_pins (s : State) : (completeWr s).pins = s.pins := rfl
@[simp] theorem completeWr_tick (s : State) : (completeWr s).tick = s.tick := rfl
@[simp] theorem completeWr_trace (s : State) : (completeWr s).trace = s.trace ++ [.write (curAddr s) (cmdImm s.cur)] := rfl
@[simp] theorem completeWr_withdrawn (s : State) : (completeWr s).withdrawn = s.withdrawn := rfl

/-! ### completeRd -/

@[simp] theorem completeRd_state (v : Word) (s : State) : (completeRd v s).state = s.state := rfl
@[simp] theorem completeRd_step (v : Word) (s : State) : (completeRd v s).step = nextStep s := rfl
@[simp] theorem completeRd_dens (v : Word) (s : State) : (completeRd v s).dens = s.dens := rfl
@[simp] theorem completeRd_S (v : Word) (s : State) : (completeRd v s).S = writeSample s.S (cmdSlot s.cur) v := rfl
@[simp] theorem completeRd_attempt (v : Word) (s : State) : (completeRd v s).attempt = s.attempt := rfl
@[simp] theorem completeRd_converged (v : Word) (s : State) : (completeRd v s).converged = s.converged := rfl
@[simp] theorem completeRd_done (v : Word) (s : State) : (completeRd v s).done = s.done := rfl
@[simp] theorem completeRd_err (v : Word) (s : State) : (completeRd v s).err = s.err := rfl
@[simp] theorem completeRd_errCode (v : Word) (s : State) : (completeRd v s).errCode = s.errCode := rfl
@[simp] theorem completeRd_errState (v : Word) (s : State) : (completeRd v s).errState = s.errState := rfl
@[simp] theorem completeRd_errStep (v : Word) (s : State) : (completeRd v s).errStep = s.errStep := rfl
@[simp] theorem completeRd_seq (v : Word) (s : State) : (completeRd v s).seq = seqCode .idle := rfl
@[simp] theorem completeRd_cur (v : Word) (s : State) : (completeRd v s).cur = s.cur := rfl
@[simp] theorem completeRd_rmwOld (v : Word) (s : State) : (completeRd v s).rmwOld = s.rmwOld := rfl
@[simp] theorem completeRd_cfg (v : Word) (s : State) : (completeRd v s).cfg = s.cfg := rfl
@[simp] theorem completeRd_segPatch (v : Word) (s : State) : (completeRd v s).segPatch = s.segPatch := rfl
@[simp] theorem completeRd_pins (v : Word) (s : State) : (completeRd v s).pins = s.pins := rfl
@[simp] theorem completeRd_tick (v : Word) (s : State) : (completeRd v s).tick = s.tick := rfl
@[simp] theorem completeRd_trace (v : Word) (s : State) : (completeRd v s).trace = s.trace ++ [.read (curAddr s) v] := rfl
@[simp] theorem completeRd_withdrawn (v : Word) (s : State) : (completeRd v s).withdrawn = s.withdrawn := rfl

/-! ### completeRmwRead -/

@[simp] theorem completeRmwRead_state (v : Word) (s : State) : (completeRmwRead v s).state = s.state := rfl
@[simp] theorem completeRmwRead_step (v : Word) (s : State) : (completeRmwRead v s).step = s.step := rfl
@[simp] theorem completeRmwRead_dens (v : Word) (s : State) : (completeRmwRead v s).dens = s.dens := rfl
@[simp] theorem completeRmwRead_S (v : Word) (s : State) : (completeRmwRead v s).S = s.S := rfl
@[simp] theorem completeRmwRead_attempt (v : Word) (s : State) : (completeRmwRead v s).attempt = s.attempt := rfl
@[simp] theorem completeRmwRead_converged (v : Word) (s : State) : (completeRmwRead v s).converged = s.converged := rfl
@[simp] theorem completeRmwRead_done (v : Word) (s : State) : (completeRmwRead v s).done = s.done := rfl
@[simp] theorem completeRmwRead_err (v : Word) (s : State) : (completeRmwRead v s).err = s.err := rfl
@[simp] theorem completeRmwRead_errCode (v : Word) (s : State) : (completeRmwRead v s).errCode = s.errCode := rfl
@[simp] theorem completeRmwRead_errState (v : Word) (s : State) : (completeRmwRead v s).errState = s.errState := rfl
@[simp] theorem completeRmwRead_errStep (v : Word) (s : State) : (completeRmwRead v s).errStep = s.errStep := rfl
@[simp] theorem completeRmwRead_seq (v : Word) (s : State) : (completeRmwRead v s).seq = seqCode .rmwWr := rfl
@[simp] theorem completeRmwRead_cur (v : Word) (s : State) : (completeRmwRead v s).cur = s.cur := rfl
@[simp] theorem completeRmwRead_rmwOld (v : Word) (s : State) : (completeRmwRead v s).rmwOld = v := rfl
@[simp] theorem completeRmwRead_cfg (v : Word) (s : State) : (completeRmwRead v s).cfg = s.cfg := rfl
@[simp] theorem completeRmwRead_segPatch (v : Word) (s : State) : (completeRmwRead v s).segPatch = s.segPatch := rfl
@[simp] theorem completeRmwRead_pins (v : Word) (s : State) : (completeRmwRead v s).pins = s.pins := rfl
@[simp] theorem completeRmwRead_tick (v : Word) (s : State) : (completeRmwRead v s).tick = s.tick := rfl
@[simp] theorem completeRmwRead_trace (v : Word) (s : State) : (completeRmwRead v s).trace = s.trace ++ [.read (curAddr s) v] := rfl
@[simp] theorem completeRmwRead_withdrawn (v : Word) (s : State) : (completeRmwRead v s).withdrawn = s.withdrawn := rfl

/-! ### completeRmwWrite -/

@[simp] theorem completeRmwWrite_state (s : State) : (completeRmwWrite s).state = s.state := rfl
@[simp] theorem completeRmwWrite_step (s : State) : (completeRmwWrite s).step = nextStep s := rfl
@[simp] theorem completeRmwWrite_dens (s : State) : (completeRmwWrite s).dens = s.dens := rfl
@[simp] theorem completeRmwWrite_S (s : State) : (completeRmwWrite s).S = s.S := rfl
@[simp] theorem completeRmwWrite_attempt (s : State) : (completeRmwWrite s).attempt = s.attempt := rfl
@[simp] theorem completeRmwWrite_converged (s : State) : (completeRmwWrite s).converged = s.converged := rfl
@[simp] theorem completeRmwWrite_done (s : State) : (completeRmwWrite s).done = s.done := rfl
@[simp] theorem completeRmwWrite_err (s : State) : (completeRmwWrite s).err = s.err := rfl
@[simp] theorem completeRmwWrite_errCode (s : State) : (completeRmwWrite s).errCode = s.errCode := rfl
@[simp] theorem completeRmwWrite_errState (s : State) : (completeRmwWrite s).errState = s.errState := rfl
@[simp] theorem completeRmwWrite_errStep (s : State) : (completeRmwWrite s).errStep = s.errStep := rfl
@[simp] theorem completeRmwWrite_seq (s : State) : (completeRmwWrite s).seq = seqCode .idle := rfl
@[simp] theorem completeRmwWrite_cur (s : State) : (completeRmwWrite s).cur = s.cur := rfl
@[simp] theorem completeRmwWrite_rmwOld (s : State) : (completeRmwWrite s).rmwOld = s.rmwOld := rfl
@[simp] theorem completeRmwWrite_cfg (s : State) : (completeRmwWrite s).cfg = s.cfg := rfl
@[simp] theorem completeRmwWrite_segPatch (s : State) : (completeRmwWrite s).segPatch = s.segPatch := rfl
@[simp] theorem completeRmwWrite_pins (s : State) : (completeRmwWrite s).pins = s.pins := rfl
@[simp] theorem completeRmwWrite_tick (s : State) : (completeRmwWrite s).tick = s.tick := rfl
@[simp] theorem completeRmwWrite_trace (s : State) : (completeRmwWrite s).trace = s.trace ++ [.write (curAddr s) (curMerged s)] := rfl
@[simp] theorem completeRmwWrite_withdrawn (s : State) : (completeRmwWrite s).withdrawn = s.withdrawn := rfl

/-! ### completeDly -/

@[simp] theorem completeDly_state (s : State) : (completeDly s).state = s.state := rfl
@[simp] theorem completeDly_step (s : State) : (completeDly s).step = nextStep s := rfl
@[simp] theorem completeDly_dens (s : State) : (completeDly s).dens = s.dens := rfl
@[simp] theorem completeDly_S (s : State) : (completeDly s).S = s.S := rfl
@[simp] theorem completeDly_attempt (s : State) : (completeDly s).attempt = s.attempt := rfl
@[simp] theorem completeDly_converged (s : State) : (completeDly s).converged = s.converged := rfl
@[simp] theorem completeDly_done (s : State) : (completeDly s).done = s.done := rfl
@[simp] theorem completeDly_err (s : State) : (completeDly s).err = s.err := rfl
@[simp] theorem completeDly_errCode (s : State) : (completeDly s).errCode = s.errCode := rfl
@[simp] theorem completeDly_errState (s : State) : (completeDly s).errState = s.errState := rfl
@[simp] theorem completeDly_errStep (s : State) : (completeDly s).errStep = s.errStep := rfl
@[simp] theorem completeDly_seq (s : State) : (completeDly s).seq = seqCode .idle := rfl
@[simp] theorem completeDly_cur (s : State) : (completeDly s).cur = s.cur := rfl
@[simp] theorem completeDly_rmwOld (s : State) : (completeDly s).rmwOld = s.rmwOld := rfl
@[simp] theorem completeDly_cfg (s : State) : (completeDly s).cfg = s.cfg := rfl
@[simp] theorem completeDly_segPatch (s : State) : (completeDly s).segPatch = s.segPatch := rfl
@[simp] theorem completeDly_pins (s : State) : (completeDly s).pins = s.pins := rfl
@[simp] theorem completeDly_tick (s : State) : (completeDly s).tick = s.tick := rfl
@[simp] theorem completeDly_trace (s : State) : (completeDly s).trace = s.trace ++ [.delay (cmdImm s.cur)] := rfl
@[simp] theorem completeDly_withdrawn (s : State) : (completeDly s).withdrawn = s.withdrawn := rfl

/-! ### placeWord -/

@[simp] theorem placeWord_state (s : State) (c : Cmd) : (placeWord s c).state = placeState s := rfl
@[simp] theorem placeWord_step (s : State) (c : Cmd) : (placeWord s c).step = s.step := rfl
@[simp] theorem placeWord_dens (s : State) (c : Cmd) : (placeWord s c).dens = s.dens := rfl
@[simp] theorem placeWord_S (s : State) (c : Cmd) : (placeWord s c).S = s.S := rfl
@[simp] theorem placeWord_attempt (s : State) (c : Cmd) : (placeWord s c).attempt = s.attempt := rfl
@[simp] theorem placeWord_converged (s : State) (c : Cmd) : (placeWord s c).converged = s.converged := rfl
@[simp] theorem placeWord_done (s : State) (c : Cmd) : (placeWord s c).done = s.done := rfl
@[simp] theorem placeWord_err (s : State) (c : Cmd) : (placeWord s c).err = s.err := rfl
@[simp] theorem placeWord_errCode (s : State) (c : Cmd) : (placeWord s c).errCode = s.errCode := rfl
@[simp] theorem placeWord_errState (s : State) (c : Cmd) : (placeWord s c).errState = s.errState := rfl
@[simp] theorem placeWord_errStep (s : State) (c : Cmd) : (placeWord s c).errStep = s.errStep := rfl
@[simp] theorem placeWord_seq (s : State) (c : Cmd) : (placeWord s c).seq = seqCode .idle := rfl
@[simp] theorem placeWord_cur (s : State) (c : Cmd) : (placeWord s c).cur = s.cur := rfl
@[simp] theorem placeWord_rmwOld (s : State) (c : Cmd) : (placeWord s c).rmwOld = s.rmwOld := rfl
@[simp] theorem placeWord_cfg (s : State) (c : Cmd) : (placeWord s c).cfg = s.cfg := rfl
@[simp] theorem placeWord_segPatch (s : State) (c : Cmd) : (placeWord s c).segPatch = ⟨placeState s, s.step, c⟩ :: s.segPatch := rfl
@[simp] theorem placeWord_pins (s : State) (c : Cmd) : (placeWord s c).pins = quietPins :: s.pins := rfl
@[simp] theorem placeWord_tick (s : State) (c : Cmd) : (placeWord s c).tick = s.tick := rfl
@[simp] theorem placeWord_trace (s : State) (c : Cmd) : (placeWord s c).trace = s.trace := rfl
@[simp] theorem placeWord_withdrawn (s : State) (c : Cmd) : (placeWord s c).withdrawn = s.withdrawn := rfl

/-! ### Operations that read only unchanged fields -/

@[simp] theorem pinsNow_setCur (c : Cmd) (s : State) : pinsNow (setCur c s) = pinsNow s := rfl
@[simp] theorem curAddr_takePins (s : State) : curAddr (takePins s) = curAddr s := rfl
@[simp] theorem curMerged_takePins (s : State) : curMerged (takePins s) = curMerged s := rfl
@[simp] theorem inFlight_takePins (s : State) : inFlight (takePins s) = inFlight s := rfl
@[simp] theorem fetch_takePins (s : State) : fetch (takePins s) = fetch s := rfl
@[simp] theorem busy_takePins (s : State) : busy (takePins s) = busy s := rfl
@[simp] theorem statusWord_takePins (s : State) : statusWord (takePins s) = statusWord s := rfl

/-- The listed sample is the one this step sees. -/
theorem pinsNow_of_cons {s : State} {p : Pins} {ps : List Pins} (h : s.pins = p :: ps) : pinsNow s = p := by
  simp [pinsNow, h]

/-- Nothing in flight: nothing is withdrawn. -/
theorem withdraw_of_idle {s : State} (h : inFlight s = none) : withdraw s = s := by
  simp [withdraw, h]

/-- With no command in flight there is no access in flight. -/
theorem inFlight_of_seq_idle {s : State} (h : s.seq = seqCode .idle) : inFlight s = none := by
  simp [inFlight, h, seqOf, seqCode]

end Sys2Proof.Machine
end

