-- ==== Sys2Proof/Laws/Ops.lean ====
section
/-! SUPPORT. What each shared operation can do, said once: the inversion lemmas of the step and of its parts. -/

namespace Sys2Proof.Machine

open Sys2Proof.Config

/-- `issue` always answers a next state: the command is issued, or ILLEGAL_CMD is taken. -/
theorem issue_cases {i : Instr} {q : SeqState} {s : State} {r : Result} (h : issue i q s = r) :
    (i.wf = true ∧ r = .next (issued i q s)) ∨
    (i.wf = false ∧ r = .next (raiseErr .illegalCmd (setCur (encode i) s))) := by
  subst h
  cases hw : i.wf <;> simp [issue, hw]

/-- `complete` waits, completes the command in flight, or faults on an unused code. -/
theorem complete_cases {p : Pins} {s : State} {r : Result} (h : complete p s = r) :
    r = .next s ∨
    (seqOf s.seq = some .wr ∧ p.mAck = true ∧ r = .next (completeWr s)) ∨
    (seqOf s.seq = some .rd ∧ p.mAck = true ∧ r = .next (completeRd p.mRdata s)) ∨
    (seqOf s.seq = some .rmwRd ∧ p.mAck = true ∧ r = .next (completeRmwRead p.mRdata s)) ∨
    (seqOf s.seq = some .rmwWr ∧ p.mAck = true ∧ r = .next (completeRmwWrite s)) ∨
    (seqOf s.seq = some .dly ∧ p.dDone = true ∧ r = .next (completeDly s)) ∨
    (seqOf s.seq = none ∧ r = .fault .seqUnused) := by
  subst h
  unfold complete
  cases p.mAck <;> cases p.dDone <;> split <;> simp_all

/-- `endSegment` goes to the next state of the table, or faults outside a segment. -/
theorem endSegment_cases {s : State} {r : Result} (h : endSegment s = r) :
    (∃ q q', stateOf s.state = some q ∧
      ((q = .entryRst ∧ q' = .clkSel) ∨ (q = .clkSel ∧ q' = .phyCfg) ∨ (q = .phyCfg ∧ q' = .ctrlCfg) ∨
        (q = .ctrlCfg ∧ q' = .trnHs) ∨ (q = .trnPulse ∧ q' = .trnSample) ∨ (q = .trnSample ∧ q' = .trnEval)) ∧
      r = .next (enter q' s)) ∨
    (stateOf s.state = some .trnHs ∧ r = .next (enterTrnPulse s)) ∨
    (stateOf s.state = some .portEn ∧ r = .next (finish s)) ∨
    ((∀ q, stateOf s.state = some q → commandBearing q = false) ∧ r = .fault .endOutsideSegment) := by
  subst h
  unfold endSegment
  split <;> simp_all [commandBearing]

/-- `trnEval` exits on the predicate, loops while attempts are left, exits when none is, or faults. -/
theorem trnEval_cases {s : State} {r : Result} (h : trnEval s = r) :
    (classOf s.dens = none ∧ r = .fault .classNotLookedUp) ∨
    (∃ d, classOf s.dens = some d ∧
      ((pred s.cfg.trn.diffMode s.S (nsamp s.cfg d) = true ∧ r = .next (converge s)) ∨
       (pred s.cfg.trn.diffMode s.S (nsamp s.cfg d) = false ∧
         ((s.attempt.toNat < attemptMax ∧ r = .next (enterTrnPulse s)) ∨
          (s.attempt.toNat = attemptMax ∧ r = .next (enter .portEn s)) ∨
          (attemptMax < s.attempt.toNat ∧ r = .fault .attemptOverrun))))) := by
  subst h
  unfold trnEval
  cases hc : classOf s.dens with
  | none => simp
  | some d =>
    refine .inr ⟨d, rfl, ?_⟩
    by_cases hp : pred s.cfg.trn.diffMode s.S (nsamp s.cfg d) = true
    · exact .inl ⟨hp, by simp [hp]⟩
    · refine .inr ⟨by simpa using hp, ?_⟩
      rcases Nat.lt_trichotomy s.attempt.toNat attemptMax with h | h | h
      · exact .inl ⟨h, by simp [hp, h]⟩
      · exact .inr (.inl ⟨h, by simp [hp, h]⟩)
      · exact .inr (.inr ⟨h, by simp [hp, Nat.not_lt.mpr h.le, (Nat.ne_of_lt h).symm]⟩)

/-- `idleStep` waits, accepts a legal start, or takes ILLEGAL_DENSITY. -/
theorem idleStep_cases (p : Pins) (s : State) :
    (p.start = false ∧ idleStep p s = s) ∨
    (p.start = true ∧ (classOf p.density).isSome = true ∧ idleStep p s = acceptStart p.density s) ∨
    (p.start = true ∧ (classOf p.density).isSome = false ∧
      idleStep p s = raiseErr .illegalDensity { s with dens := p.density }) := by
  unfold idleStep
  cases p.start <;> cases h : (classOf p.density).isSome <;> simp

/-- `fetchExec` executes the decoded command, takes ILLEGAL_CMD, or faults where there is no segment. -/
theorem fetchExec_cases {s : State} {r : Result} (h : fetchExec s = r) :
    (fetch s = none ∧ r = .fault .classNotLookedUp) ∨
    (∃ c i, fetch s = some c ∧ decode c = .ok i ∧ r = exec i (setCur c s)) ∨
    (∃ c e, fetch s = some c ∧ decode c = .error e ∧ r = .next (raiseErr .illegalCmd (setCur c s))) := by
  subst h
  unfold fetchExec
  cases hf : fetch s with
  | none => simp
  | some c => cases hd : decode c with
    | ok i => simp [hd]
    | error e => simp [hd]

/-- A sample register reads as written, and the others stay (10 R24). -/
theorem readSample_writeSample (S : Samples) (k j : BitVec 2) (v : Word) :
    readSample (writeSample S k v) j = if j = k then v else readSample S j := by
  have h : ∀ b : BitVec 2, b = 0 ∨ b = 1 ∨ b = 2 ∨ b = 3 := by decide
  rcases h k with rfl | rfl | rfl | rfl <;> rcases h j with rfl | rfl | rfl | rfl <;> rfl

/-- A longer trace: the last event decides where it is a write to the address. -/
theorem lastWrite_append (es : List Event) (e : Event) (a : Word) :
    lastWrite (es ++ [e]) a = (lastWrite [e] a).or (lastWrite es a) := by
  induction es with
  | nil => simp [lastWrite]
  | cons x xs ih => cases x <;> simp [lastWrite, ih, Option.or_assoc]

/-- What abandoning the access in flight records (70 R262). -/
theorem withdraw_withdrawn (s : State) :
    (withdraw s).withdrawn =
      s.withdrawn ++ (inFlight s).toList.map (fun r => ⟨r, freePerformed s.tick⟩) := by
  unfold withdraw
  cases inFlight s <;> simp

/-- What a step can do (42 R150, 70 R260). -/
theorem step_cases {s : State} {r : Host.Outcome State Fault Refusal} (h : step s = r) :
    ((pinsNow s).rst = true ∧ r = .next (resetEdge (takePins s))) ∨
    ((pinsNow s).rst = false ∧ stateOf s.state = none ∧ r = .next (raiseErr .illegalState (takePins s))) ∨
    ((pinsNow s).rst = false ∧ (∃ q, stateOf s.state = some q) ∧ s.seq ≠ seqCode .idle ∧
      r = complete (pinsNow s) (takePins s)) ∨
    ((pinsNow s).rst = false ∧ stateOf s.state = some .idle ∧ s.seq = seqCode .idle ∧
      r = .next (idleStep (pinsNow s) (takePins s))) ∨
    ((pinsNow s).rst = false ∧ stateOf s.state = some .trnEval ∧ s.seq = seqCode .idle ∧ r = trnEval (takePins s)) ∨
    ((pinsNow s).rst = false ∧ (stateOf s.state = some .done ∨ stateOf s.state = some .error) ∧
      s.seq = seqCode .idle ∧ r = .next (takePins s)) ∨
    ((pinsNow s).rst = false ∧ (∃ q, stateOf s.state = some q ∧ commandBearing q = true) ∧ s.seq = seqCode .idle ∧
      r = fetchExec (takePins s)) := by
  subst h
  unfold step machineStep pinStep
  cases hr : (pinsNow s).rst with
  | true => simp
  | false =>
    unfold fsmStep
    simp only [takePins_state, takePins_seq]
    cases hq : stateOf s.state with
    | none => simp
    | some q =>
      by_cases hs : s.seq = seqCode .idle
      · cases q <;> simp [hs, fsmAct, commandBearing]
      · simp [hs]

/-! ### The meanings, one equation each for a legal command -/

theorem execWr_of_wf {sp : Space} {off : Off} {imm : Word} (s : State) (h : offAligned off = true) :
    execWr sp off imm s = .next (issued (.wr sp off imm) .wr s) := by
  simp [execWr, issue, Instr.wf, h]

theorem execRd_of_wf {k : BitVec 2} {sp : Space} {off : Off} (s : State) (h : offAligned off = true) :
    execRd k sp off s = .next (issued (.rd k sp off) .rd s) := by
  simp [execRd, issue, Instr.wf, h]

theorem execRmw_of_wf {sp : Space} {off : Off} {lsb : BitVec 5} {wm1 : BitVec 3} {imm : Word} (s : State)
    (h : (Instr.rmw sp off lsb wm1 imm).wf = true) :
    execRmw sp off lsb wm1 imm s =
      .next (issued (.rmw sp off lsb wm1 imm) .rmwRd s) := by
  simp [execRmw, issue, h]

theorem execDly_eq (ns : Word) (s : State) :
    execDly ns s = .next (issued (.dly ns) .dly s) := by
  simp [execDly, issue, Instr.wf]

end Sys2Proof.Machine
end

