-- ==== Sys2Proof/Laws/PerInstr.lean ====
section
/-! SUPPORT. Families of facts about every command as syntax, one lemma per constructor. -/

namespace Sys2Proof.Laws.OpcodeRow

/-- The mask of a command's row in spec/opcode_table.json. -/
def rowMask : Instr → Cmd
  | .wr _ _ _ => 0xF30003FF00000000
  | .rd _ _ _ => 0xF00003FFFFFFFFFF
  | .rmw _ _ _ _ _ => 0xF300030000000000
  | .dly _ => 0xFFFFFFFF00000000
  | .endSeg => 0xFFFFFFFFFFFFFFFF

/-- The match value of a command's row in spec/opcode_table.json. -/
def rowMatch : Instr → Cmd
  | .wr _ _ _ => 0x1000000000000000
  | .rd _ _ _ => 0x2000000000000000
  | .rmw _ _ _ _ _ => 0x3000000000000000
  | .dly _ => 0x4000000000000000
  | .endSeg => 0xF000000000000000

/-- The word of a well-formed command matches its own row of the opcode table. -/
def Statement (i : Instr) : Prop := i.wf = true → encode i &&& rowMask i = rowMatch i

/-- Two bits of an aligned offset are 0. -/
theorem aligned_bits {off : Off} (h : offAligned off = true) : off.getLsbD 0 = false ∧ off.getLsbD 1 = false := by
  simp only [offAligned, beq_iff_eq] at h
  constructor <;> simp only [BitVec.getLsbD, Nat.testBit_eq_decide_div_mod_eq] <;> simp <;> omega

theorem wr (sp : Space) (off : Off) (imm : Word) : Statement (.wr sp off imm) := by
  intro h
  obtain ⟨h0, h1⟩ := aligned_bits (off := off) (by simpa [Instr.wf] using h)
  simp only [encode, rowMask, rowMatch, assembleWord]
  generalize spaceCode sp = b
  ext i hi
  simp
  interval_cases i <;> simp_all

theorem rd (slot : BitVec 2) (sp : Space) (off : Off) : Statement (.rd slot sp off) := by
  intro h
  obtain ⟨h0, h1⟩ := aligned_bits (off := off) (by simpa [Instr.wf] using h)
  simp only [encode, rowMask, rowMatch, assembleWord]
  generalize spaceCode sp = b
  ext i hi
  simp
  interval_cases i <;> simp_all

theorem rmw (sp : Space) (off : Off) (lsb : BitVec 5) (wm1 : BitVec 3) (imm : Word) :
    Statement (.rmw sp off lsb wm1 imm) := by
  intro h
  simp only [Instr.wf, Bool.and_eq_true] at h
  obtain ⟨h0, h1⟩ := aligned_bits h.1.1
  simp only [encode, rowMask, rowMatch, assembleWord]
  generalize spaceCode sp = b
  ext i hi
  simp
  interval_cases i <;> simp_all

theorem dly (ns : Word) : Statement (.dly ns) := by
  intro _
  simp only [encode, rowMask, rowMatch, assembleWord]
  ext i hi
  simp
  interval_cases i <;> simp

theorem endSeg : Statement .endSeg := by
  intro _; decide

end Sys2Proof.Laws.OpcodeRow
end

