-- ==== Sys2Proof/Tests/Slice0.lean ====
section
/-! SUPPORT. The model's own tests (expected values from spec 95_test_vectors.md) and, for every statement that has
hypotheses, a concrete state and operands that meet them. -/

namespace Sys2Proof.Tests

open Sys2Proof.Config Sys2Proof.Machine Sys2Proof.Safety

/-! ### The example configuration CFG_EX of 95 section 0, every open word 0 -/

/-- A lane register at a valid offset. -/
def laneReg : RegWrite := ⟨0x044, 0⟩

/-- A nibble group of such registers. -/
def laneGroup : NibbleGroup := ⟨laneReg, laneReg, laneReg, laneReg⟩

/-- CFG_EX before the spec's defaults are put over it. -/
def cfgOpen : Cfg :=
  { (default : Cfg) with
    platform := ⟨0x40000000, 0x41000000, 0x42000000, 0x43000000, 0⟩
    clkRst := ⟨0x010, 4, 1, 2, 0x000, 0, 1, 3, 1000⟩
    phy := { (default : PhyStatic) with
             pllOut := ⟨0x010, 0⟩, laneA := ⟨laneGroup, laneGroup⟩, laneB := ⟨laneGroup, laneGroup⟩ }
    rom := { (default : RomOpen) with row512First := .b13, row512Second := .b14 }
    trn := { (default : Training) with
             tHsSettle := 100, tHsRst := 100, tHsSwctl := 100, tHsPll := 100, tHsOdt := 100, tHsDfi := 100
             pllHsVal := 5, hsOdt := ⟨0x048, 0⟩, trnSp := .phy, trnOff := 0x3e0, trnOnVal := 1, tTrnHold := 500 } }

/-- CFG_EX. -/
def cfgEx : Cfg := withDefaults cfgOpen

theorem test_cfgEx_valid : cfgValid cfgEx = true := by decide

/-- CFG_EX with `CLK_SEL_LSB = 31`, invalid (95 P6). -/
def cfgP6 : Cfg := { cfgEx with clkRst := { cfgEx.clkRst with clkSelLsb := 31 } }

theorem test_cfgP6_invalid : cfgValid cfgP6 = false := by decide

/-! ### States -/

/-- Pins that answer whatever is asked, reads with `v`. -/
def ackPins (v : Word) : Pins := { quietPins with mAck := true, mRdata := v, dDone := true }

/-- Pins that ask for a start. -/
def startPins (d : BitVec 3) : Pins := { quietPins with start := true, density := d }

/-- Pins with `rst` high. -/
def rstPins : Pins := { quietPins with rst := true }

/-- The reset state under CFG_EX, with pins. -/
def idleWith (ps : List Pins) : State := { State.reset with cfg := cfgEx, pins := ps }

/-- At the start of a state, class 64M, with the flags and the samples a converging run has there. -/
def atStart (q : FsmState) (ps : List Pins) : State :=
  { idleWith ps with
    state := stateCode q
    dens := 1
    S := ⟨0x10, 0x12, 0x11, 0x13⟩
    attempt := if q = .trnPulse ∨ q = .trnSample ∨ q = .trnEval ∨ q = .portEn ∨ q = .done then 1 else 0
    converged := decide (q = .portEn ∨ q = .done)
    done := decide (q = .done) }

/-- A command at step 0 of ENTRY_RST is in flight. -/
def inFlightState (i : Instr) (q : SeqState) (ps : List Pins) : State :=
  { atStart .entryRst ps with cur := encode i, seq := seqCode q }

/-- The state after a step, if the step answers one. -/
def after (s : State) : Option State :=
  match step s with
  | .next t => some t
  | .fault _ => none
  | .refused _ => none

/-- The state after an instruction, if it answers one. -/
def afterExec (i : Instr) (s : State) : Option State :=
  match exec i s with
  | .next t => some t
  | .fault _ => none
  | .refused _ => none

/-! ### WellFormed: an ill-formed term for each check (30 R84) -/

theorem test_wf_misaligned_refused :
    (Instr.wr .ctrl 0x012 5).wf = false ∧ (Instr.rd 0 .phy 0x3ed).wf = false ∧
      (Instr.rmw .clk 0x5f2 0 0 0).wf = false := by decide

theorem test_wf_field_outside_word_refused : (Instr.rmw .clk 0x010 31 1 1).wf = false := by decide

theorem test_wf_value_outside_field_refused : (Instr.rmw .clk 0x010 4 1 4).wf = false := by decide

theorem test_wf_boundaries_accepted :
    (Instr.rmw .clk 0x010 31 0 1).wf = true ∧ (Instr.rmw .clk 0x010 24 7 0xff).wf = true ∧
      (Instr.wr .phy 0xfffc 0xffffffff).wf = true := by decide

/-! ### Decode: words written out in 95 section 2.3 -/

theorem test_decode_wr :
    decode 0x1C00000000000001 = .ok (.wr .sys 0 1) ∧ decode 0x14FFFC00FFFFFFFF = .ok (.wr .phy 0xfffc 0xffffffff) := by
  decide

theorem test_decode_rd :
    decode 0x2403EC0000000000 = .ok (.rd 0 .phy 0x3ec) ∧ decode 0x2603F40000000000 = .ok (.rd 2 .phy 0x3f4) := by decide

theorem test_decode_rmw :
    decode 0x3800102100000001 = .ok (.rmw .clk 0x010 4 1 1) ∧
      decode 0x380010C7000000FF = .ok (.rmw .clk 0x010 24 7 0xff) := by decide

theorem test_decode_dly :
    decode 0x40000000000003E8 = .ok (.dly 1000) ∧ decode 0x4000000000000000 = .ok (.dly 0) := by decide

theorem test_decode_end : decode 0xF000000000000000 = .ok .endSeg := by decide

theorem test_decode_illegal :
    decode 0x1100100000000005 = .error .unusedNonzero ∧ decode 0x1000120000000005 = .error .misaligned ∧
      decode 0x2403EC0100000000 = .error .unusedNonzero ∧ decode 0x380010F900000001 = .error .fieldOutsideWord ∧
      decode 0x3800102100000004 = .error .valueOutsideField ∧ decode 0x3A00102100000001 = .error .unusedNonzero ∧
      decode 0x4400000000000005 = .error .unusedNonzero ∧ decode 0xF000000000000001 = .error .unusedNonzero ∧
      decode 0xE000000000000000 = .error .reservedOp := by decide

theorem test_encode_words :
    encode (.wr .ctrl 0x204 0x001F0606) = 0x10020400001F0606 ∧ encode (.rd 3 .sys 0) = 0x2F00000000000000 ∧
      encode (.rmw .clk 0x010 8 3 0xA) = 0x380010430000000A ∧ encode (.dly 500) = 0x40000000000001F4 ∧
      encode .endSeg = 0xF000000000000000 := by decide

/-- 30 R91: the field form and its printed text. -/
theorem test_assemble_field :
    assemble cfgEx (.rmw .clk (.num 0x010) 5 4 1) = .ok [0x3800102100000001] ∧
      instrText (.rmw .clk 0x010 4 1 1) = "RMW CLK+0x0010[5:4], 0x00000001" ∧
      assemble cfgEx (.clr .ctrl (.reg .mrctrl1)) = .ok [0x1000140000000000] := by decide

/-! ### The commands (95 section 2.4): one step each -/

theorem test_wr_issues :
    (afterExec (.wr .sys 0 0) (atStart .entryRst [])).map (fun t => (t.seq, t.cur)) =
      some (seqCode .wr, 0x1C00000000000000) := by decide

theorem test_wr_completes :
    (after (inFlightState (.wr .ctrl 0x064 0x00130014) .wr [ackPins 0])).map (fun t => (t.trace, t.step, t.seq)) =
      some ([.write 0x40000064 0x00130014], 1, seqCode .idle) := by decide

theorem test_rd_completes :
    (after (inFlightState (.rd 2 .phy 0x3f4) .rd [ackPins 0xFFFFFFFF])).map (fun t => (t.trace, t.S, t.step)) =
      some ([.read 0x410003F4 0xFFFFFFFF], ⟨0x10, 0x12, 0xFFFFFFFF, 0x13⟩, 1) := by decide

theorem test_rd_waits :
    (after (inFlightState (.rd 0 .phy 0x3ec) .rd [quietPins])).map (fun t => (t.trace, t.seq, t.step)) =
      some ([], seqCode .rd, 0) := by decide

theorem test_rmw_reads :
    (after (inFlightState (.rmw .clk 0x010 4 1 1) .rmwRd [ackPins 0xABCD0033])).map
        (fun t => (t.trace, t.rmwOld, t.seq, inFlight t)) =
      some ([.read 0x42000010 0xABCD0033], 0xABCD0033, seqCode .rmwWr, some (.write 0x42000010 0xABCD0013)) := by decide

theorem test_rmw_merges :
    rmwMerge 4 1 2 0xABCD0033 = 0xABCD0023 ∧ rmwMerge 31 0 0 0xFFFFFFFF = 0x7FFFFFFF ∧
      rmwMerge 24 7 0xFF 0 = 0xFF000000 ∧ rmwMerge 0 7 0 0x12345678 = 0x12345600 ∧
      rmwMerge 8 3 0xA 0xDEADBEEF = 0xDEADBAEF := by decide

theorem test_dly_completes :
    (after (inFlightState (.dly 1000) .dly [ackPins 0])).map (fun t => (t.trace, t.step, t.seq)) =
      some ([.delay 1000], 1, seqCode .idle) := by decide

theorem test_end_moves_on :
    (afterExec .endSeg (atStart .trnHs [])).map (fun t => (t.state, t.step, t.attempt)) =
      some (stateCode .trnPulse, 0, 1) := by decide

theorem test_end_sets_done :
    (afterExec .endSeg (atStart .portEn [])).map (fun t => (t.state, t.done, t.trace)) =
      some (stateCode .done, true, []) := by decide

/-! ### Start, errors, reset, status (95 section 2.7) -/

theorem test_start_status : (after (idleWith [startPins 0])).map statusWord = some 0x00001001 := by decide

theorem test_illegal_density_status : (after (idleWith [startPins 5])).map statusWord = some 0x00150008 := by decide

theorem test_illegal_state_status :
    (after { idleWith [quietPins] with state := 12, step := 3, dens := 2 }).map statusWord = some 0x0332C008 := by decide

/-- 95 P6: the error path of CLK_SEL. -/
theorem test_illegal_cmd_status :
    (after { idleWith [quietPins] with cfg := cfgP6, state := stateCode .clkSel }).map
        (fun t => (statusWord t, t.cur, t.trace)) = some (0x00202008, 0x380010F900000001, []) := by decide

theorem test_reset_withdraws :
    (after (inFlightState (.wr .sys 0 0) .wr [rstPins])).map (fun t => (statusWord t, t.trace, t.withdrawn.map (·.req))) =
      some (0, [], [.write 0x43000000 0]) := by decide

theorem test_status_words :
    statusWord { atStart .ctrlCfg [] with step := 73, dens := 4 } = 0x49044001 ∧
      statusWord { atStart .trnSample [] with step := 2, attempt := 57, dens := 3 } = 0x02037391 ∧
      statusWord { atStart .done [] with attempt := 7, dens := 4 } = 0x0004A076 := by decide

/-! ### Predicate, segments (95 sections 2.5, 2.8, 2.9) -/

theorem test_predicate :
    pred .exact ⟨0x10, 0x12, 0x11, 0x13⟩ 4 = true ∧ pred .exact ⟨0x90, 0x90, 0x90, 0x90⟩ 4 = false ∧
      pred .exact ⟨0, 4, 8, 4⟩ 4 = false ∧ pred .exact ⟨0x10, 0x12, 0x11, 0x15⟩ 4 = false ∧
      pred .exact ⟨0x10, 0x14, 0xDEAD, 0xBEEF⟩ 2 = true ∧ pred .exact ⟨0, 0xFFFFFFFF, 0, 0⟩ 2 = false ∧
      pred .wrapI32 ⟨0, 0xFFFFFFFF, 0, 0⟩ 2 = true ∧ pred .wrapI32 ⟨0, 0x80000000, 0, 0⟩ 2 = false := by decide

theorem test_entry_rst_words :
    seg .entryRst .d32M cfgEx =
      [0x1C00000000000000, 0x40000000000003E8, 0x1C00000000000001, 0xF000000000000000] := by decide

theorem test_clk_sel_words :
    seg .clkSel .d32M cfgEx = [0x3800102100000001, 0xF000000000000000] ∧
      seg .clkSel .d64M cfgEx = [0x3800102100000002, 0xF000000000000000] := by decide

theorem test_trn_hs_words :
    (seg .trnHs .d64M cfgEx).drop 1 =
      [0x1C00000000000003, 0x4000000000000064, 0x1003200000000000, 0x4000000000000064, 0x1400100000000005,
        0x4000000000000064, 0x1400480000000000, 0x4000000000000064, 0x1001B00000000020, 0x4000000000000064,
        0x1001B00000000000, 0xF000000000000000] := by decide

/-- The golden CTRL_CFG writes at steps 12, 37, 45, 47, 53 and 72 (95 section 2.8). -/
theorem test_ctrl_cfg_writes :
    (segInstrs .ctrlCfg .d32M cfgEx)[12]? = some (.wr .ctrl 0x064 0x0030001A) ∧
      (segInstrs .ctrlCfg .d64M cfgEx)[37]? = some (.wr .ctrl 0x204 0x001F0707) ∧
      (segInstrs .ctrlCfg .d512M cfgEx)[45]? = some (.wr .ctrl 0x250 0x00001800) ∧
      (segInstrs .ctrlCfg .d512M cfgEx)[47]? = some (.wr .ctrl 0x4B4 0x00001020) ∧
      (segInstrs .ctrlCfg .d512M cfgEx)[53]? = some (.wr .ctrl 0x618 0x0000105F) ∧
      (segInstrs .ctrlCfg .d512M cfgEx)[72]? = some (.wr .ctrl 0x6B0 0) ∧
      (segInstrs .ctrlCfg .d512M cfgEx)[73]? = some .endSeg := by decide

/-! ### Witnesses: the hypotheses of the statements are met -/

theorem witness_DecodeReadsEncodedCommand : (Instr.rmw .sys 0xfffc 31 0 1).wf = true := by decide

theorem witness_DecodedWordIsItsEncoding : decode 0x380010F800000001 = .ok (.rmw .clk 0x010 31 0 1) := by decide

/-- The segment cell holds the all-zero word. -/
def damaged : State := { atStart .entryRst [quietPins] with segPatch := [⟨stateCode .entryRst, 0, 0⟩] }

theorem witness_ExactlyLegalWordsAreCommands :
    (pinsNow damaged).rst = false ∧ inSegment damaged ∧ damaged.seq = seqCode .idle ∧ fetch damaged = some 0 ∧
      legal 0 = false :=
  ⟨rfl, ⟨.entryRst, rfl, rfl⟩, rfl, rfl, by decide⟩

/-- A field that fits at both bounds, one past each bound, an aligned and a misaligned offset. -/
theorem witness_AssembledFieldWriteDecodes :
    (24 ≤ 31 ∧ 31 - 24 < 8 ∧ 31 < 32 ∧ (0xFF : Word).toNat < 2 ^ (31 - 24 + 1) ∧
        offAligned (asmOff cfgEx (.num 0x010)) = true) ∧
      assemble cfgEx (.rmw .clk (.num 0x010) 31 24 0xFF) = .ok [0x380010C7000000FF] ∧
      assemble cfgEx (.rmw .clk (.num 0x010) 32 31 1) = .error .illegal ∧
      assemble cfgEx (.rmw .clk (.num 0x010) 8 0 1) = .error .noSuchField ∧
      assemble cfgEx (.rmw .clk (.num 0x010) 5 4 4) = .error .illegal ∧
      offAligned (asmOff cfgEx (.reg .dfimisc)) = true ∧ offAligned (asmOff cfgEx (.num 0x012)) = false := by decide

/-- Clauses of the statements of WR and RD: an aligned and a misaligned offset, an ack and none. -/
theorem witness_WrIssuesThenWrites :
    offAligned 0xfffc = true ∧ offAligned 0xfffd = false ∧ (stateOf (atStart .portEn []).state).isSome = true ∧
      (pinsNow (atStart .portEn [quietPins])).rst = false ∧ (pinsNow (atStart .portEn [quietPins])).mAck = false ∧
      (pinsNow (atStart .portEn [ackPins 1])).rst = false ∧ (pinsNow (atStart .portEn [ackPins 1])).mAck = true ∧
      (atStart .portEn [ackPins 1]).step ≠ 255 := by decide

theorem witness_RdIssuesThenSamples :
    offAligned 0x3ec = true ∧ offAligned 0x3ee = false ∧ (3 : BitVec 2) ≠ 2 ∧
      (stateOf (atStart .trnSample []).state).isSome = true ∧
      (pinsNow (atStart .trnSample [quietPins])).rst = false ∧ (pinsNow (atStart .trnSample [quietPins])).mAck = false ∧
      (pinsNow (atStart .trnSample [ackPins 1])).rst = false ∧ (pinsNow (atStart .trnSample [ackPins 1])).mAck = true ∧
      (atStart .trnSample [ackPins 1]).step ≠ 255 := by decide

/-- Both halves, each with an ack and without. -/
theorem witness_RmwReadsThenWritesField :
    (Instr.rmw .clk 0x010 24 7 0xff).wf = true ∧ (Instr.rmw .clk 0x010 25 7 0xff).wf = false ∧
      (stateOf (atStart .clkSel []).state).isSome = true ∧
      (pinsNow (atStart .clkSel [quietPins])).mAck = false ∧
      (pinsNow (takePins (atStart .clkSel [ackPins 0, quietPins]))).rst = false ∧
      (pinsNow (takePins (atStart .clkSel [ackPins 0, quietPins]))).mAck = false ∧
      (pinsNow (atStart .clkSel [ackPins 0, ackPins 0])).rst = false ∧
      (pinsNow (atStart .clkSel [ackPins 0, ackPins 0])).mAck = true ∧
      (pinsNow (takePins (atStart .clkSel [ackPins 0, ackPins 0]))).rst = false ∧
      (pinsNow (takePins (atStart .clkSel [ackPins 0, ackPins 0]))).mAck = true ∧
      (atStart .clkSel [ackPins 0, ackPins 0]).step ≠ 255 := by decide

theorem witness_DlyIssuesThenExpires :
    (stateOf (atStart .trnPulse []).state).isSome = true ∧ (pinsNow (atStart .trnPulse [quietPins])).rst = false ∧
      (pinsNow (atStart .trnPulse [quietPins])).dDone = false ∧ (pinsNow (atStart .trnPulse [ackPins 0])).rst = false ∧
      (pinsNow (atStart .trnPulse [ackPins 0])).dDone = true ∧ (atStart .trnPulse [ackPins 0]).step ≠ 255 := by decide

theorem witness_EndGoesToNextState :
    (∀ q, (atStart q []).state = stateCode q) ∧ (atStart .trnHs []).attempt ≠ 127 :=
  ⟨fun _ => rfl, by decide⟩

theorem witness_IllFormedCommandTakesIllegalCmd :
    (Instr.wr .ctrl 0xffff 0).wf = false ∧ (Instr.rmw .clk 0 31 1 0).wf = false ∧
      (atStart .clkSel []).seq = seqCode .idle := by decide

/-- The first premise, and the three conditional clauses. -/
theorem witness_ExecutionFrame :
    (∃ t, exec .endSeg (atStart .trnHs []) = .next t ∧ t.attempt ≠ (atStart .trnHs []).attempt) ∧
      (∃ t, exec .endSeg (atStart .portEn []) = .next t ∧ t.done ≠ (atStart .portEn []).done) ∧
      (∃ t, exec (.wr .sys 0 0) (atStart .entryRst []) = .next t) ∧ (Instr.wr .sys 0 0).wf = true :=
  ⟨⟨_, rfl, by decide⟩, ⟨_, rfl, by decide⟩, ⟨_, rfl⟩, rfl⟩

theorem witness_CompletionFrame :
    (∃ t, complete (ackPins 7) (inFlightState (.rd 3 .phy 0x3f8) .rd []) = .next t) ∧
      (∃ t, complete (ackPins 7) (inFlightState (.rmw .clk 0x010 4 1 1) .rmwRd []) = .next t) ∧
      (∃ t, complete (ackPins 7) (inFlightState (.wr .sys 0 1) .wr []) = .next t) ∧
      (0x43000004 : Word) ≠ curAddr (inFlightState (.wr .sys 0 1) .wr []) ∧
      (2 : BitVec 2) ≠ cmdSlot (inFlightState (.rd 3 .phy 0x3f8) .rd []).cur :=
  ⟨⟨_, rfl⟩, ⟨_, rfl⟩, ⟨_, rfl⟩, by decide, by decide⟩

theorem witness_CompletedWriteIsLastWrite :
    (∃ t, complete (ackPins 7) (inFlightState (.wr .sys 0 1) .wr []) = .next t) ∧
      (∃ t, complete (ackPins 7) (inFlightState (.rmw .clk 0x010 4 1 1) .rmwWr []) = .next t) ∧
      (ackPins 7).mAck = true ∧ (inFlightState (.wr .sys 0 1) .wr []).seq = seqCode .wr ∧
      (inFlightState (.rmw .clk 0x010 4 1 1) .rmwWr []).seq = seqCode .rmwWr :=
  ⟨⟨_, rfl⟩, ⟨_, rfl⟩, rfl, rfl, rfl⟩

theorem witness_StepRunsDecodedCommand :
    let s := atStart .clkSel [quietPins]
    (pinsNow s).rst = false ∧ inSegment s ∧ s.seq = seqCode .idle ∧ fetch s = some 0x3800102100000002 ∧
      decode 0x3800102100000002 = .ok (.rmw .clk 0x010 4 1 2) :=
  ⟨rfl, ⟨.clkSel, rfl, rfl⟩, rfl, by decide, by decide⟩

theorem witness_FetchReadsSegment :
    let s := { atStart .ctrlCfg [] with step := 73 }
    s.segPatch = [] ∧ stateOf s.state = some .ctrlCfg ∧ classOf s.dens = some .d64M ∧
      (segInstrs .ctrlCfg .d64M s.cfg)[s.step.toNat]? = some .endSeg := by decide

theorem witness_PlacedWordIsExecuted :
    decodeTableWord 64 0x2703F80000000000 = some (.rd 3 .phy 0x3f8) := by decide

theorem witness_ResetGivesResetValues : (pinsNow (atStart .trnPulse [rstPins])).rst = true := by decide

theorem witness_ResetWithdrawsAccess :
    (pinsNow (inFlightState (.wr .sys 0 1) .wr [rstPins])).rst = true ∧
      inFlight (inFlightState (.wr .sys 0 1) .wr [rstPins]) = some (.write 0x43000000 1) ∧
      (pinsNow (atStart .done [rstPins])).rst = true ∧ inFlight (atStart .done [rstPins]) = none := by decide

theorem witness_StartIsAcceptedInIdle :
    let s := idleWith [startPins 4]
    let u := idleWith [quietPins]
    s.state = stateCode .idle ∧ s.seq = seqCode .idle ∧ (pinsNow s).rst = false ∧ (pinsNow s).start = true ∧
      (pinsNow s).density.toNat ≤ 4 ∧ (pinsNow u).rst = false ∧ (pinsNow u).start = false := by decide

theorem witness_IllegalDensityIsRefusedAtStart :
    let s := idleWith [startPins 5]
    s.state = stateCode .idle ∧ s.seq = seqCode .idle ∧ (pinsNow s).rst = false ∧ (pinsNow s).start = true ∧
      5 ≤ (pinsNow s).density.toNat := by decide

theorem witness_StartIgnoredOutsideIdle :
    (atStart .done []).state ≠ stateCode .idle ∧
      ({ idleWith [] with seq := seqCode .wr } : State).seq ≠ seqCode .idle := by decide

theorem witness_UnaskedAnswersAreIgnored :
    (idleWith []).seq = seqCode .idle ∧ (inFlightState (.dly 1) .dly []).seq = seqCode .dly ∧
      (inFlightState (.wr .sys 0 1) .wr []).seq ≠ seqCode .dly := by decide

theorem witness_UnusedStateCodeTakesIllegalState :
    let s : State := { inFlightState (.wr .sys 0 1) .wr [quietPins] with state := 11 }
    let u : State := { idleWith [quietPins] with state := 14 }
    11 ≤ s.state.toNat ∧ s.state.toNat ≤ 14 ∧ (pinsNow s).rst = false ∧ 11 ≤ u.state.toNat ∧ u.state.toNat ≤ 14 ∧
      (pinsNow u).rst = false := by decide

/-- ERROR, and DONE; `rst` low, and high. -/
theorem witness_OnlyResetLeavesErrorAndDone :
    let e : State := raiseErr .illegalDensity (idleWith [quietPins])
    let d : State := atStart .done [rstPins]
    e.state = stateCode .error ∧ e.seq = seqCode .idle ∧ (pinsNow e).rst = false ∧
      d.state = stateCode .done ∧ d.seq = seqCode .idle ∧ (pinsNow d).rst = true := by decide

theorem witness_CommandInFlightHoldsTheBlock :
    let s := inFlightState (.rd 0 .phy 0x3ec) .rd [quietPins]
    (stateOf s.state).isSome = true ∧ s.seq ≠ seqCode .idle ∧ (pinsNow s).rst = false ∧ (∃ t, step s = .next t) ∧
      (pinsNow s).mAck = false ∧ (pinsNow s).dDone = false :=
  ⟨rfl, by decide, rfl, ⟨_, rfl⟩, rfl, rfl⟩

theorem witness_ConvergenceGoesToPortEn :
    let s := atStart .trnEval [quietPins]
    s.state = stateCode .trnEval ∧ s.seq = seqCode .idle ∧ (pinsNow s).rst = false ∧ classOf s.dens = some .d64M ∧
      pred s.cfg.trn.diffMode s.S (nsamp s.cfg .d64M) = true := by decide

theorem witness_FailedAttemptIsRetried :
    let s : State := { atStart .trnEval [quietPins] with S := ⟨0x90, 0x90, 0x90, 0x90⟩, attempt := 99 }
    s.state = stateCode .trnEval ∧ s.seq = seqCode .idle ∧ (pinsNow s).rst = false ∧ classOf s.dens = some .d64M ∧
      pred s.cfg.trn.diffMode s.S (nsamp s.cfg .d64M) = false ∧ s.attempt.toNat < 100 := by decide

theorem witness_ExhaustionGoesToPortEn :
    let s : State := { atStart .trnEval [quietPins] with S := ⟨0x90, 0x90, 0x90, 0x90⟩, attempt := 100 }
    s.state = stateCode .trnEval ∧ s.seq = seqCode .idle ∧ (pinsNow s).rst = false ∧ classOf s.dens = some .d64M ∧
      pred s.cfg.trn.diffMode s.S (nsamp s.cfg .d64M) = false ∧ s.attempt.toNat = 100 := by decide

/-- `attempt` at its bound, reset to 0, and counted. -/
theorem witness_AttemptWrittenOnlyOnEntry :
    (∃ t, step (atStart .done [quietPins]) = .next t ∧ (atStart .done [quietPins]).attempt.toNat ≤ 100) ∧
      (∃ t, step ({ atStart .done [rstPins] with attempt := 100 } : State) = .next t) ∧
      (∃ t, step ({ atStart .trnHs [quietPins] with step := 12 } : State) = .next t) :=
  ⟨⟨_, rfl, by decide⟩, ⟨_, rfl⟩, ⟨_, rfl⟩⟩

theorem witness_DensityLatchedOnlyAtStart :
    (∃ t, step (idleWith [startPins 4]) = .next t ∧ t.dens ≠ (idleWith [startPins 4]).dens) ∧
      (pinsNow (idleWith [startPins 4])).rst = false :=
  ⟨⟨_, rfl, by decide⟩, rfl⟩

theorem witness_SamplesWrittenOnlyByRd :
    let s := inFlightState (.rd 3 .phy 0x3f8) .rd [ackPins 7]
    (∃ t, step s = .next t ∧ t.S ≠ s.S) ∧ (pinsNow s).rst = false :=
  ⟨⟨_, rfl, by decide⟩, rfl⟩

/-- One step for each of the six clauses. -/
theorem witness_FlagsWrittenOnlyByTheirRules :
    (∃ t, step (atStart .trnEval [quietPins]) = .next t ∧ t.converged = true) ∧
      (∃ t, step (atStart .portEn [rstPins]) = .next t ∧ t.converged = false) ∧
      (∃ t, step ({ atStart .portEn [quietPins] with step := 4 } : State) = .next t ∧ t.done = true) ∧
      (∃ t, step (atStart .done [rstPins]) = .next t ∧ t.done = false) ∧
      (∃ t, step (idleWith [startPins 7]) = .next t ∧ t.err = true) ∧
      (∃ t, step (raiseErr .illegalCmd (idleWith [rstPins])) = .next t ∧ t.err = false) :=
  ⟨⟨_, rfl, rfl⟩, ⟨_, rfl, rfl⟩, ⟨_, rfl, rfl⟩, ⟨_, rfl, rfl⟩, ⟨_, rfl, rfl⟩, ⟨_, rfl, rfl⟩⟩

theorem witness_ConfigurationNeverChanges : ∃ t, step (atStart .trnHs [quietPins]) = .next t := ⟨_, rfl⟩

theorem witness_EventsAreCompletionsInOrder : ∃ t, step (inFlightState (.dly 1) .dly [ackPins 0]) = .next t := ⟨_, rfl⟩

theorem witness_AddressesDoNotWrap : platformValid cfgEx.platform = true ∧ offAligned 0xfffc = true := by decide

/-- The field's first and last bit, and the bits beside it. -/
theorem witness_MergeReplacesExactlyTheField :
    fieldInWord 24 7 = true ∧ (24 : BitVec 5).toNat = 24 ∧ (24 : BitVec 5).toNat + (7 : BitVec 3).toNat = 31 ∧
      fieldInWord 4 1 = true ∧ (3 : Nat) < (4 : BitVec 5).toNat ∧ (4 : BitVec 5).toNat + (1 : BitVec 3).toNat < 6 := by
  decide

theorem witness_AbsdiffModes : absdiff .exact 0x80000000 0 ≤ 2 ^ 31 ∧ absdiff .exact 0 0x80000000 ≤ 2 ^ 31 := by decide

/-- Two records that agree on the first two samples only. -/
theorem witness_PredicateIsAllPairs :
    ∀ k, k < 2 → sampleAt ⟨0x10, 0x14, 0xDEAD, 0xBEEF⟩ k = sampleAt ⟨0x10, 0x14, 0, 0⟩ k := by decide

theorem witness_PortsShowCommandInFlight :
    (idleWith []).seq = seqCode .idle ∧ (inFlightState (.wr .sys 0 1) .wr []).seq = seqCode .wr ∧
      (inFlightState (.rd 0 .phy 0) .rd []).seq = seqCode .rd ∧
      (inFlightState (.rmw .clk 0x010 4 1 1) .rmwRd []).seq = seqCode .rmwRd ∧
      (inFlightState (.rmw .clk 0x010 4 1 1) .rmwWr []).seq = seqCode .rmwWr ∧
      (inFlightState (.dly 1) .dly []).seq = seqCode .dly := by decide

/-- A field the pair names first, one it names second, and one it does not name. -/
theorem witness_RomClassFlagsAndRows :
    cfgEx.rom.row512First = .b13 ∧ cfgEx.rom.row512Second = .b14 ∧
      cfgEx.rom.row512First ≠ .b0 ∧ cfgEx.rom.row512Second ≠ .b0 ∧ RowField.b0 ≠ .b13 := by decide

theorem witness_RomHoldsSourceValues : Density.d512M ≠ .d32M := by decide

theorem witness_SegmentsEndWithOneEnd : commandBearing .ctrlCfg = true ∧ cfgValid cfgEx = true := by decide

theorem witness_ValidCfgSegmentsAreLegal :
    cfgValid cfgEx = true ∧ (0x1C00000000000001 : Cmd) ∈ seg .entryRst .d64M cfgEx := by decide

theorem witness_DefaultPackedWords : cfgEx.pack = [] ∧ cfgEx.ctrlOff = [] := by decide

theorem witness_SegmentsReachTheirSpaces :
    .wr .sys 0 1 ∈ segInstrs .entryRst .d64M cfgEx ∧ .rmw .clk 0x010 4 1 2 ∈ segInstrs .clkSel .d64M cfgEx ∧
      .wr .phy 0x010 0 ∈ segInstrs .phyCfg .d64M cfgEx ∧ .wr .ctrl 0x0dc 0x63 ∈ segInstrs .ctrlCfg .d64M cfgEx := by
  decide

/-! ### Witnesses of the invariants -/

/-- At the start of any state but ERROR the example run meets the run invariant. -/
theorem runInv_atStart (q : FsmState) (ps : List Pins) (h : q ≠ .error) : RunInv (atStart q ps) := by
  have hv : cfgValid (atStart q ps).cfg = true := test_cfgEx_valid
  refine
    { stateLegal := by simp [atStart]
      seqLegal := by simp [atStart, idleWith, State.reset]
      flightInSegment := by simp [atStart, idleWith, State.reset]
      stepZero := by simp [atStart, idleWith, State.reset]
      doneIff := by cases q <;> simp [atStart]
      errIff := by cases q <;> simp_all [atStart, idleWith, State.reset]
      errFieldsClear := by simp [atStart, idleWith, State.reset]
      errCodeSet := by simp [atStart, idleWith, State.reset]
      attemptBound := by cases q <;> simp [atStart, attemptMax]
      attemptBefore := by cases q <;> simp [atStart]
      attemptDuring := by cases q <;> simp [atStart]
      convergedAfter := by cases q <;> simp [atStart]
      loopExit := by cases q <;> simp [atStart]
      classLegal := by simp [atStart]; intro; decide
      cfgOk := hv
      storageOk := rfl
      atCommand := ?_
      curInFlight := by simp [atStart, idleWith, State.reset]
      onlyIllegalDensity := by simp [atStart, idleWith, State.reset]
      convergedSamples := ?_ }
  · rintro ⟨p, hp, hc⟩
    simp [atStart] at hp
    subst hp
    cases q <;> first | rfl | cases hc
  · intro _
    have hp : pred .exact ⟨0x10, 0x12, 0x11, 0x13⟩ 4 = true := by decide
    exact ⟨.d64M, rfl, hp⟩

theorem witness_ResetMeetsTheInvariants : cfgValid cfgEx = true := test_cfgEx_valid

theorem witness_StepKeepsStatusInv :
    StatusInv (atStart .trnEval [quietPins]) ∧ ∃ t, step (atStart .trnEval [quietPins]) = .next t :=
  ⟨(runInv_atStart _ _ (by decide)).toStatusInv, ⟨_, rfl⟩⟩

theorem witness_StepNeverStops : StatusInv (atStart .trnEval []) ∧ ¬ inSegment (atStart .trnEval []) := by
  refine ⟨(runInv_atStart _ _ (by decide)).toStatusInv, ?_⟩
  rintro ⟨q, hq, hc⟩
  cases hq
  cases hc

theorem witness_StepKeepsRunInv :
    RunInv (atStart .ctrlCfg [quietPins]) ∧ ∃ t, step (atStart .ctrlCfg [quietPins]) = .next t :=
  ⟨runInv_atStart _ _ (by decide), ⟨_, rfl⟩⟩

theorem witness_DoneHasOneOfTwoOutcomes :
    RunInv (atStart .done []) ∧ (atStart .done []).state = stateCode .done :=
  ⟨runInv_atStart _ _ (by decide), rfl⟩

theorem witness_BringUpReachesDone :
    let s := atStart .portEn (List.replicate 2000 (ackPins 0))
    RunInv s ∧ busy s = true ∧ (∀ p ∈ s.pins, responsive p = true) ∧ workLeft s ≤ s.pins.length := by
  refine ⟨runInv_atStart _ _ (by decide), rfl, ?_, ?_⟩
  · intro p hp
    rw [List.eq_of_mem_replicate hp]
    rfl
  · show 1024 * 1 + 3 * (255 - 0) + 2 ≤ (List.replicate 2000 (ackPins 0)).length
    rw [List.length_replicate]
    decide

theorem witness_ResponsiveStepReducesWork :
    let s := atStart .trnPulse [ackPins 0]
    RunInv s ∧ busy s = true ∧ responsive (pinsNow s) = true ∧ ∃ t, step s = .next t :=
  ⟨runInv_atStart _ _ (by decide), rfl, rfl, ⟨_, rfl⟩⟩

theorem witness_SegmentRunEmitsItsEvents :
    let s := atStart .entryRst (List.replicate 7 (ackPins 0))
    let body : List Instr := [.wr .sys 0 0, .dly 1000, .wr .sys 0 1]
    RunInv s ∧ stateOf s.state = some .entryRst ∧ classOf s.dens = some .d64M ∧ s.step = 0 ∧ s.seq = seqCode .idle ∧
      segInstrs .entryRst .d64M s.cfg = body ++ [.endSeg] ∧ (∀ i ∈ body, readless i = true) ∧
      (∀ p ∈ s.pins, responsive p = true) ∧ 2 * body.length + 1 ≤ s.pins.length :=
  ⟨runInv_atStart _ _ (by decide), rfl, rfl, rfl, rfl, by decide, by decide, by decide, by decide⟩

theorem witness_SampleSegmentReadsResults :
    let s := atStart .trnSample (List.replicate 9 (ackPins 0))
    RunInv s ∧ s.state = stateCode .trnSample ∧ classOf s.dens = some .d64M ∧ s.step = 0 ∧ s.seq = seqCode .idle ∧
      (∀ p ∈ s.pins, responsive p = true) ∧ 2 * nsamp s.cfg .d64M + 1 ≤ s.pins.length :=
  ⟨runInv_atStart _ _ (by decide), rfl, rfl, rfl, rfl, by decide, by decide⟩

/-- A run of DONE without convergence: 100 attempts, samples that fail. -/
theorem witness_DoneNotConverged :
    let s : State := { atStart .done [] with converged := false, attempt := 100, S := ⟨0x90, 0x90, 0x90, 0x90⟩ }
    RunInv s ∧ s.state = stateCode .done := by
  have h := runInv_atStart .done [] (by decide)
  exact ⟨{ h with
    attemptBound := by decide
    attemptBefore := by intro q hq hb; cases hq; simp at hb
    attemptDuring := by intro q _ _; decide
    convergedAfter := by intro hc; cases hc
    loopExit := by intro _; exact .inr (by decide)
    convergedSamples := by intro hc; cases hc }, rfl⟩

/-- With its first command in flight a segment of the example run meets the run invariant. -/
theorem runInv_inFlight (q : FsmState) (i : Instr) (k : SeqState) (ps : List Pins) (hb : commandBearing q = true)
    (hi : (segInstrs q .d64M cfgEx)[0]? = some i) (hk : k ∈ flightOf i) :
    RunInv { atStart q ps with cur := encode i, seq := seqCode k } := by
  have h := runInv_atStart q ps (by rintro rfl; cases hb)
  have hc : currentInstr (atStart q ps) = some i := by
    have hq : stateOf (atStart q ps).state = some q := by simp [atStart]
    have hd : classOf (atStart q ps).dens = some .d64M := rfl
    unfold currentInstr
    rw [hq, hd]
    exact hi
  refine ⟨{ h with seqLegal := by simp, flightInSegment := fun _ => ⟨q, by simp [atStart], hb⟩ },
    h.cfgOk, h.storageOk, h.atCommand, ?_, h.onlyIllegalDensity, h.convergedSamples⟩
  intro p hp _
  simp only [seqOf_seqCode, Option.some.injEq] at hp
  subst hp
  exact ⟨i, hc, rfl, hk⟩

/-- An access completes in each of the phases the statement names. -/
theorem witness_AccessesLieInTheirWindows :
    let at0 (q : FsmState) (i : Instr) (k : SeqState) : State :=
      { atStart q [ackPins 7] with cur := encode i, seq := seqCode k }
    let shows (s : State) (e : Event) (a : Word) : Prop :=
      RunInv s ∧ (∃ t, step s = .next t ∧ t.trace = s.trace ++ [e]) ∧ eventAddr e = some a
    shows (at0 .entryRst (.wr .sys 0 0) .wr) (.write 0x43000000 0) 0x43000000 ∧
      shows (at0 .clkSel (.rmw .clk 0x010 4 1 2) .rmwRd) (.read 0x42000010 7) 0x42000010 ∧
      shows (at0 .phyCfg (.wr .phy 0 0) .wr) (.write 0x41000000 0) 0x41000000 ∧
      shows (at0 .ctrlCfg (.wr .ctrl 0 4) .wr) (.write 0x40000000 4) 0x40000000 ∧
      shows (at0 .trnSample (.rd 0 .phy 0x3ec) .rd) (.read 0x410003EC 7) 0x410003EC :=
  ⟨⟨runInv_inFlight _ _ _ _ (by decide) (by decide) (by decide), ⟨_, rfl, rfl⟩, rfl⟩,
    ⟨runInv_inFlight _ _ _ _ (by decide) (by decide) (by decide), ⟨_, rfl, rfl⟩, rfl⟩,
    ⟨runInv_inFlight _ _ _ _ (by decide) (by decide) (by decide), ⟨_, rfl, rfl⟩, rfl⟩,
    ⟨runInv_inFlight _ _ _ _ (by decide) (by decide) (by decide), ⟨_, rfl, rfl⟩, rfl⟩,
    ⟨runInv_inFlight _ _ _ _ (by decide) (by decide) (by decide), ⟨_, rfl, rfl⟩, rfl⟩⟩

end Sys2Proof.Tests
end

section
/-! PROOFS. Reset (70 R260, 10 R34): what a clock edge with `rst` high leaves of the state and shows at the ports. -/

namespace Sys2Proof.Machine

/-- Reset outranks whatever the state holds: such a step is the reset edge on the state whose pins are taken (70 R260). -/
theorem step_of_rst {s : State} (h : (pinsNow s).rst = true) : step s = .next (resetEdge (takePins s)) := by
  simp [step, machineStep, pinStep, h]

/-- The registers the status word packs are 0 after a reset, and IDLE, whose code is 0, is not busy (30 R90, 10 R27). -/
@[simp] theorem statusWord_resetEdge (s : State) : statusWord (resetEdge s) = 0 := by
  have hbusy : busy (resetEdge s) = false := by simp [busy]
  simp [statusWord, hbusy, bitWord, stateCode]

@[simp] theorem portOutputs_rst (s : State) : portOutputs true s = noRequest := rfl

/-- Settles O18: the step is the reset edge, whose registers the lemmas on `resetEdge` read off. -/
theorem resetGivesResetValues : Obligations.ResetGivesResetValues := by
  unfold Obligations.ResetGivesResetValues
  constructor
  · intro s hrst
    exact ⟨resetEdge (takePins s), step_of_rst hrst, by simp⟩
  · simp [State.reset]

end Sys2Proof.Machine
end

section
/-! PROOFS. The status word (30 R90): each field lies at its place and no other field reaches it; the derived busy
(10 R27) and the state codes it shows (30 R88). -/

namespace Sys2Proof.Machine

/-! ### A value placed in a word at bit `k` -/

section Placed

variable {w n k : Nat} (x : BitVec n)

theorem extractLsb'_placed_same (h : k + n ≤ w) : (x.setWidth w <<< k).extractLsb' k n = x := by
  ext i hi
  have hik : k + i < w := by omega
  simp [hik, BitVec.getLsbD_eq_getElem hi]

theorem extractLsb'_placed_disjoint {j m : Nat} (h : j + m ≤ k ∨ k + n ≤ j) :
    (x.setWidth w <<< k).extractLsb' j m = 0 := by
  ext i hi
  rcases h with hbelow | habove
  · have hlt : j + i < k := by omega
    simp [hlt]
  · have hge : n ≤ j + i - k := by omega
    simp [BitVec.getLsbD_of_ge x _ hge]

/-- A value that is not shifted lies at bit 0. -/
theorem extractLsb'_setWidth_above {j m : Nat} (h : n ≤ j) : (x.setWidth w).extractLsb' j m = 0 := by
  simpa using extractLsb'_placed_disjoint (k := 0) x (.inr (by simpa using h))

end Placed

theorem bitWord_eq_setWidth (b : Bool) : bitWord b = (BitVec.ofBool b).setWidth 32 := by cases b <;> rfl

@[simp] theorem getElem_bitWord (b : Bool) (i : Nat) (h : i < 32) : (bitWord b)[i] = (decide (i = 0) && b) := by
  cases b <;> simp [bitWord]

/-! ### The fields of the status word -/

theorem statusWord_flags (s : State) :
    (statusWord s).getLsbD 0 = busy s ∧ (statusWord s).getLsbD 1 = s.done ∧
      (statusWord s).getLsbD 2 = s.converged ∧ (statusWord s).getLsbD 3 = s.err := by
  simp [statusWord]

/-- Bits 11 and 19 lie in no field. -/
theorem statusWord_zeros (s : State) : (statusWord s).getLsbD 11 = false ∧ (statusWord s).getLsbD 19 = false := by
  simp [statusWord]

theorem statusWord_registers (s : State) :
    (statusWord s).extractLsb' 4 7 = s.attempt ∧
      (statusWord s).extractLsb' 12 4 = (if s.err then s.errState else s.state) ∧
      (statusWord s).extractLsb' 16 3 = s.dens ∧ (statusWord s).extractLsb' 20 4 = s.errCode ∧
      (statusWord s).extractLsb' 24 8 = (if s.err then s.errStep else s.step) := by
  simp [statusWord, bitWord_eq_setWidth, BitVec.extractLsb'_or, extractLsb'_placed_same, extractLsb'_placed_disjoint,
    extractLsb'_setWidth_above]

/-- 10 R27 over the codes: every code but those of IDLE, DONE and ERROR is busy, the unused ones too. -/
theorem busy_iff (s : State) : busy s = true ↔ s.state ≠ 0 ∧ s.state ≠ 10 ∧ s.state ≠ 15 := by
  simp [busy, stateCode, and_assoc]

/-- The unused codes are 11 to 14 (30 R88). -/
theorem stateOf_eq_none : ∀ b : BitVec 4, stateOf b = none ↔ 11 ≤ b.toNat ∧ b.toNat ≤ 14 := by
  decide

/-- Settles O41: the codes from the table of 30 R88, the word field by field, and the host outputs by rewriting each slice
to the register it holds. -/
theorem statusWordFields : Obligations.StatusWordFields := by
  unfold Obligations.StatusWordFields
  refine ⟨by decide, stateOf_stateCode, stateOf_eq_none, fun s => ?_⟩
  obtain ⟨hbusy, hdone, hconverged, herr⟩ := statusWord_flags s
  obtain ⟨h11, h19⟩ := statusWord_zeros s
  obtain ⟨hattempt, hstate, hdens, herrCode, hstep⟩ := statusWord_registers s
  refine ⟨?_, hdone, hconverged, herr, hattempt, h11, hstate, hdens, h19, herrCode, hstep, ?_⟩
  · rw [hbusy]
    exact busy_iff s
  · rw [hbusy, hdone, hconverged, herr, herrCode, hattempt]
    rfl

end Sys2Proof.Machine
end

section
/-! PROOFS. The configuration (40 R119, 10 R30): no operation writes CFG or the segment storage. -/

namespace Sys2Proof.Machine

open Sys2Proof.Config

/-- `t` has the CFG and the segment storage of `s`. -/
def SameConfig (s t : State) : Prop := t.cfg = s.cfg ∧ t.segPatch = s.segPatch

/-! ### One lemma per operation that answers a next state -/

section Operations

variable {s t : State}

theorem raiseErr_sameConfig (e : ErrCode) (s : State) : SameConfig s (raiseErr e s) :=
  ⟨raiseErr_cfg e s, raiseErr_segPatch e s⟩

theorem issue_sameConfig {i : Instr} {q : SeqState} (h : issue i q s = .next t) : SameConfig s t := by
  rcases issue_cases h with ⟨-, ht⟩ | ⟨-, ht⟩ <;> cases ht
  · exact ⟨rfl, rfl⟩
  · exact raiseErr_sameConfig .illegalCmd (setCur (encode i) s)

theorem complete_sameConfig {p : Pins} (h : complete p s = .next t) : SameConfig s t := by
  rcases complete_cases h with ht | ⟨-, -, ht⟩ | ⟨-, -, ht⟩ | ⟨-, -, ht⟩ | ⟨-, -, ht⟩ | ⟨-, -, ht⟩ | ⟨-, ht⟩ <;>
    cases ht <;> exact ⟨rfl, rfl⟩

theorem endSegment_sameConfig (h : endSegment s = .next t) : SameConfig s t := by
  rcases endSegment_cases h with ⟨q, q', -, -, ht⟩ | ⟨-, ht⟩ | ⟨-, ht⟩ | ⟨-, ht⟩ <;> cases ht <;> exact ⟨rfl, rfl⟩

theorem trnEval_sameConfig (h : trnEval s = .next t) : SameConfig s t := by
  rcases trnEval_cases h with ⟨-, ht⟩ | ⟨d, -, ⟨-, ht⟩ | ⟨-, ⟨-, ht⟩ | ⟨-, ht⟩ | ⟨-, ht⟩⟩⟩ <;> cases ht <;>
    exact ⟨rfl, rfl⟩

theorem idleStep_sameConfig (p : Pins) (s : State) : SameConfig s (idleStep p s) := by
  rcases idleStep_cases p s with ⟨-, hi⟩ | ⟨-, -, hi⟩ | ⟨-, -, hi⟩ <;> rw [hi]
  · exact ⟨rfl, rfl⟩
  · exact ⟨rfl, rfl⟩
  · exact raiseErr_sameConfig .illegalDensity { s with dens := p.density }

theorem exec_sameConfig {i : Instr} (h : exec i s = .next t) : SameConfig s t := by
  cases i with
  | wr sp off imm => exact issue_sameConfig h
  | rd slot sp off => exact issue_sameConfig h
  | rmw sp off lsb wm1 imm => exact issue_sameConfig h
  | dly ns => exact issue_sameConfig (i := .dly ns) (q := .dly) h
  | endSeg => exact endSegment_sameConfig (s := setCur (encode .endSeg) s) h

theorem fetchExec_sameConfig (h : fetchExec s = .next t) : SameConfig s t := by
  rcases fetchExec_cases h with ⟨-, ht⟩ | ⟨c, i, -, -, ht⟩ | ⟨c, e, -, -, ht⟩
  · cases ht
  · exact exec_sameConfig (s := setCur c s) ht.symm
  · cases ht
    exact raiseErr_sameConfig .illegalCmd (setCur c s)

/-- Taking the pins keeps both, so what the rest of the step keeps since then the whole step keeps. -/
theorem SameConfig.of_takePins (h : SameConfig (takePins s) t) : SameConfig s t := h

/-- Along the cases of a step (42 R150, 70 R260). -/
theorem step_sameConfig (h : step s = .next t) : SameConfig s t := by
  apply SameConfig.of_takePins
  rcases step_cases h with ⟨-, hreset⟩ | ⟨-, -, hunused⟩ | ⟨-, -, -, hcomplete⟩ | ⟨-, -, -, hidle⟩ |
    ⟨-, -, -, heval⟩ | ⟨-, -, -, hwait⟩ | ⟨-, -, -, hfetch⟩
  · cases hreset
    exact ⟨rfl, rfl⟩
  · cases hunused
    exact raiseErr_sameConfig .illegalState (takePins s)
  · exact complete_sameConfig hcomplete.symm
  · cases hidle
    exact idleStep_sameConfig _ _
  · exact trnEval_sameConfig heval.symm
  · cases hwait
    exact ⟨rfl, rfl⟩
  · exact fetchExec_sameConfig hfetch.symm

end Operations

/-- Settles O35: each operation a step can end in keeps CFG and the segment storage. -/
theorem configurationNeverChanges : Obligations.ConfigurationNeverChanges := by
  unfold Obligations.ConfigurationNeverChanges
  intro s t h
  exact step_sameConfig h

end Sys2Proof.Machine
end

section
/-! PROOFS. density_profile_rom (40 R110 to R118): the row of 32M, the row the other classes share, and the fields that
depend on the class or on CFG. -/

namespace Sys2Proof.Machine

open Sys2Proof.Config Sys2Proof.Safety

/-! ### The two branches -/

/-- Every class but 32M takes the common row (R113). -/
theorem rom_of_ne_32M (cfg : Cfg) {d : Density} (h : d ≠ .d32M) : rom cfg d = romCommon cfg d := by
  cases d with
  | d32M => exact absurd rfl h
  | d64M | d128M | d256M | d512M => rfl

theorem romRefresh_fst_of_ne_32M {d : Density} (h : d ≠ .d32M) : (romRefresh d).1 = 0x14 := by
  cases d with
  | d32M => exact absurd rfl h
  | d64M | d128M | d256M | d512M => rfl

/-- The bank shifts are the class's, in both branches (R115). -/
theorem rom_bank (cfg : Cfg) (d : Density) :
    ((rom cfg d).bankB0, (rom cfg d).bankB1, (rom cfg d).bankB2) = romBank d := by
  cases d <;> rfl

/-- The refresh interval is the class's, in both branches (R114). -/
theorem rom_rfcNomX32 (cfg : Cfg) (d : Density) : (rom cfg d).rfcNomX32 = (romRefresh d).2 := by
  cases d <;> rfl

/-- Settles O43: the row of 32M and the common row hold the values as written, the refresh pair and the bank shifts come
from their own tables. -/
theorem romHoldsSourceValues : Obligations.RomHoldsSourceValues := by
  unfold Obligations.RomHoldsSourceValues
  intro cfg
  refine ⟨?row32M, ?common, ?refresh, ?bank⟩
  case row32M => simp [rom, rom32M, romRefresh]
  case common =>
    intro d hd
    simp [rom_of_ne_32M cfg hd, romCommon, romRefresh_fst_of_ne_32M hd]
  case refresh => simp [rom_rfcNomX32, romRefresh]
  case bank => simp only [rom_bank, romBank, and_self]

/-! ### The flags of a class (R118) -/

theorem rom_bus16 (cfg : Cfg) (d : Density) : (rom cfg d).bus16 = decide (d = .d32M) := by
  cases d <;> rfl

theorem rom_clk200 (cfg : Cfg) (d : Density) : (rom cfg d).clk200 = decide (d = .d32M) := by
  cases d <;> rfl

theorem nsamp_eq (cfg : Cfg) (d : Density) : nsamp cfg d = if d = .d32M then 2 else 4 := by
  cases d <;> rfl

/-! ### The row fields (R116) -/

/-- A row field of the ROM is the class's open value of that name with R116's values over it. -/
theorem romRow_rom (cfg : Cfg) (d : Density) (f : RowField) : romRow (rom cfg d) f = openRow (romRowCol cfg d) f := by
  cases d <;> cases f <;> rfl

/-- R116 gives 128M and 256M only ROW_B13. -/
theorem openRow_with_rowB13 (o : RomOpenClass) (v : Half) {f : RowField} (h : f ≠ .b13) :
    openRow { o with rowB13 := v } f = openRow o f := by
  cases f with
  | b13 => exact absurd rfl h
  | b0 | b1 | b2_10 | b11 | b12 | b14 | b15 => rfl

/-- Every row field of 512M depends in the same way on whether `CFG.ROW512_PAIR` names it. -/
theorem romRow_rom_512M (cfg : Cfg) (f : RowField) :
    romRow (rom cfg .d512M) f = row512 cfg f (openRow cfg.rom.perClass.c512M f) := by
  cases f <;> rfl

/-! ### The fields without a value (R111) -/

/-- The fields of a record that are open per branch. -/
def openBranchOf (p : ParameterSet) : RomOpenBranch :=
  { preCkeX1024 := p.preCkeX1024, minStableClockX1 := p.minStableClockX1, mr3 := p.mr3, tRrd := p.tRrd
    tCcd := p.tCcd, tCke := p.tCke, tCkesr := p.tCkesr, tCksre := p.tCksre, tCksrx := p.tCksrx, ckpd := p.ckpd }

theorem openBranchOf_rom (cfg : Cfg) (d : Density) : openBranchOf (rom cfg d) = forBranch cfg.rom.branch d := by
  cases d <;> rfl

theorem forBranch_eq_ite {α : Type} (v : PerBranch α) (d : Density) :
    forBranch v d = if d = .d32M then v.b32M else v.common := by
  cases d <;> rfl

/-- R116 gives no column field: all four are the class's open values. -/
theorem rom_columns (cfg : Cfg) (d : Density) :
    [(rom cfg d).colB8, (rom cfg d).colB9, (rom cfg d).colB10, (rom cfg d).colB11] =
      [(forClass cfg.rom.perClass d).colB8, (forClass cfg.rom.perClass d).colB9, (forClass cfg.rom.perClass d).colB10,
        (forClass cfg.rom.perClass d).colB11] := by
  cases d <;> rfl

/-- Settles O44: the class codes from the table of 30 R86, the flags as tests for 32M, the row fields through
`romRowCol`, and the open fields by name. -/
theorem romClassFlagsAndRows : Obligations.RomClassFlagsAndRows := by
  unfold Obligations.RomClassFlagsAndRows
  refine ⟨by decide, fun cfg d => ⟨?bus16, ?clk200, ?two, ?four, rfl, rfl, ?rows, ?branch, ?columns⟩⟩
  case bus16 => simp [rom_bus16]
  case clk200 => simp [rom_clk200]
  case two => simp [nsamp_eq]
  case four => simp [nsamp_eq]
  case rows =>
    intro f
    refine ⟨fun hpair => ?_, fun hfirst hsecond => ?_, romRow_rom cfg .d32M f, romRow_rom cfg .d64M f, fun hb13 => ?_⟩
    · rw [romRow_rom_512M, row512, if_pos hpair]
    · rw [romRow_rom_512M, row512, if_neg (not_or.mpr ⟨hfirst, hsecond⟩)]
    · rw [romRow_rom, romRow_rom]
      exact ⟨openRow_with_rowB13 _ _ hb13, openRow_with_rowB13 _ _ hb13⟩
  case branch =>
    have hopen := (openBranchOf_rom cfg d).trans (forBranch_eq_ite cfg.rom.branch d)
    simp [← hopen, openBranchOf]
  case columns =>
    exact ⟨rom_columns cfg .d32M, rom_columns cfg .d64M, rom_columns cfg .d128M, rom_columns cfg .d256M,
      rom_columns cfg .d512M⟩

end Sys2Proof.Machine
end

section
/-! PROOFS. END (41 R134): the rows of the next-state table, and what its two rows with an effect of their own add. -/

namespace Sys2Proof.Machine

open Sys2Proof.Config

/-- END completes in the step that executes it: its word is in `cur` when the segment ends. -/
theorem exec_endSeg (s : State) : exec .endSeg s = endSegment (setCur (encode .endSeg) s) := rfl

/-- The rows of R134's table whose END does nothing but move on: all but those of TRN_HS (R201) and PORT_EN (R211). -/
def plainNext : FsmState → Option FsmState
  | .entryRst => some .clkSel
  | .clkSel => some .phyCfg
  | .phyCfg => some .ctrlCfg
  | .ctrlCfg => some .trnHs
  | .trnPulse => some .trnSample
  | .trnSample => some .trnEval
  | .idle | .trnHs | .trnEval | .portEn | .done | .error => none

section Rows

variable {s : State}

theorem endSegment_of_plainNext {q q' : FsmState} (hrow : plainNext q = some q') (hs : s.state = stateCode q) :
    endSegment s = .next (enter q' s) := by
  have hq : stateOf s.state = some q := stateOf_eq_some.mpr hs
  cases q with
  | entryRst | clkSel | phyCfg | ctrlCfg | trnPulse | trnSample =>
    cases hrow
    simp [endSegment, hq]
  | idle | trnHs | trnEval | portEn | done | error => cases hrow

theorem endSegment_of_trnHs (hs : s.state = stateCode .trnHs) : endSegment s = .next (enterTrnPulse s) := by
  simp [endSegment, hs]

theorem endSegment_of_portEn (hs : s.state = stateCode .portEn) : endSegment s = .next (finish s) := by
  simp [endSegment, hs]

/-- Below its last value the attempt counter counts (10 R25). -/
theorem nextAttempt_of_ne (h : s.attempt ≠ 127) : nextAttempt s = s.attempt + 1 := if_neg h

/-- A plain END writes `cur`, `state` and `step` and no other field. -/
theorem exec_endSeg_of_plainNext {q q' : FsmState} (hrow : plainNext q = some q') (hs : s.state = stateCode q) :
    exec .endSeg s = .next { s with cur := encode .endSeg, state := stateCode q', step := 0 } := by
  rw [exec_endSeg]
  exact endSegment_of_plainNext (s := setCur (encode .endSeg) s) hrow hs

end Rows

/-- Settles O10: row by row; out of TRN_HS the next state is `enterTrnPulse`, out of PORT_EN it is `finish`. -/
theorem endGoesToNextState : Obligations.EndGoesToNextState := by
  unfold Obligations.EndGoesToNextState
  intro s
  refine ⟨by decide, exec_endSeg_of_plainNext rfl, exec_endSeg_of_plainNext rfl, exec_endSeg_of_plainNext rfl,
    exec_endSeg_of_plainNext rfl, ?trnHs, exec_endSeg_of_plainNext rfl, exec_endSeg_of_plainNext rfl, ?portEn⟩
  case trnHs =>
    intro hs
    refine ⟨enterTrnPulse (setCur (encode .endSeg) s), ?_, fun hcount => ?_, rfl⟩
    · rw [exec_endSeg]
      exact endSegment_of_trnHs (s := setCur (encode .endSeg) s) hs
    · exact nextAttempt_of_ne (s := setCur (encode .endSeg) s) hcount
  case portEn =>
    intro hs
    rw [exec_endSeg]
    exact endSegment_of_portEn (s := setCur (encode .endSeg) s) hs

end Sys2Proof.Machine
end

section
/-! PROOFS. The convergence predicate (43 R203, R204): WRAP_I32 as a function of the true difference, and the predicate as a
statement about the first `n` samples by index. -/

namespace Sys2Proof.Machine

open Sys2Proof.Config Sys2Proof.Safety

/-! ### absdiff (R203) -/

theorem absdiff_exact_eq_abs (a b : Word) : (absdiff .exact a b : Int) = |(a.toNat : Int) - (b.toNat : Int)| := by
  simp only [absdiff]
  split
  next hle => rw [abs_of_nonneg (by omega), Nat.cast_sub hle]
  next hlt => rw [abs_of_neg (by omega), Nat.cast_sub (by omega), neg_sub]

theorem absdiff_wrapI32_eq_abs (a b : Word) : (absdiff .wrapI32 a b : Int) = |(a - b).toInt| :=
  Int.natCast_natAbs _

theorem absdiff_exact_lt (a b : Word) : absdiff .exact a b < 2 ^ 32 := by
  have ha := a.isLt
  have hb := b.isLt
  simp only [absdiff]
  split <;> omega

theorem absdiff_exact_comm (a b : Word) : absdiff .exact a b = absdiff .exact b a := by
  have habs := absdiff_exact_eq_abs a b
  rw [abs_sub_comm, ← absdiff_exact_eq_abs b a] at habs
  exact Nat.cast_injective habs

theorem absdiff_exact_self (a : Word) : absdiff .exact a a = 0 := by simp [absdiff]

/-- WRAP_I32 is the true difference folded at 2^31: beyond it the wrapped difference is the way round through 2^32. -/
theorem absdiff_wrapI32_eq_fold (a b : Word) :
    absdiff .wrapI32 a b =
      if absdiff .exact a b ≤ 2 ^ 31 then absdiff .exact a b else 2 ^ 32 - absdiff .exact a b := by
  have ha := a.isLt
  have hb := b.isLt
  simp only [absdiff, BitVec.toInt_eq_toNat_cond, BitVec.toNat_sub]
  split_ifs <;> omega

/-- Settles O39: both modes are functions of the true difference, which is symmetric and 0 on equals. -/
theorem absdiffModes : Obligations.AbsdiffModes := by
  unfold Obligations.AbsdiffModes
  intro a b
  refine ⟨absdiff_exact_eq_abs a b, absdiff_wrapI32_eq_abs a b, absdiff_exact_lt a b, ?wrapBound, fun m => ?symmetric,
    fun hle => ?agree, by decide, by decide⟩
  case wrapBound =>
    rw [absdiff_wrapI32_eq_fold]
    split_ifs <;> omega
  case symmetric =>
    cases m with
    | exact => exact ⟨absdiff_exact_comm a b, absdiff_exact_self a⟩
    | wrapI32 => simp [absdiff_wrapI32_eq_fold, absdiff_exact_comm a b, absdiff_exact_self]
  case agree => rw [absdiff_wrapI32_eq_fold, if_pos hle]

/-! ### The predicate (R204) -/

theorem allPairsClose_iff_pairwise (m : DiffMode) (l : List Word) :
    allPairsClose m l = true ↔ l.Pairwise fun x y => absdiff m x y ≤ tolerance := by
  induction l with
  | nil => simp [allPairsClose]
  | cons x xs ih => simp [allPairsClose, ih]

theorem take_sampleList (S : Samples) {n : Nat} (h : n ≤ 4) :
    (sampleList S).take n = (List.range n).map (sampleAt S) := by
  have hall : sampleList S = (List.range 4).map (sampleAt S) := rfl
  rw [hall, ← List.map_take, List.take_range, Nat.min_eq_left h]

theorem allPairsClose_take_iff (m : DiffMode) (S : Samples) {n : Nat} (h : n ≤ 4) :
    allPairsClose m ((sampleList S).take n) = true ↔
      ∀ i j, i < j → j < n → absdiff m (sampleAt S i) (sampleAt S j) ≤ 4 := by
  rw [allPairsClose_iff_pairwise, take_sampleList S h, List.pairwise_map, List.pairwise_iff_getElem]
  simp only [List.length_range, List.getElem_range, tolerance]
  exact ⟨fun hp i j hij hj => hp i j (hij.trans hj) hj hij, fun hp i j _ hj hij => hp i j hij hj⟩

theorem pred_iff (m : DiffMode) (S : Samples) {n : Nat} (h : n ≤ 4) :
    pred m S n = true ↔ (sampleAt S 0).getLsbD 7 = false ∧
      ∀ i j, i < j → j < n → absdiff m (sampleAt S i) (sampleAt S j) ≤ 4 := by
  rw [← allPairsClose_take_iff m S h]
  simp [pred, sampleAt, readSample]

/-- The predicate reads the first `n` samples only, `S[0]` among them. -/
theorem pred_congr (m : DiffMode) {S S' : Samples} {n : Nat} (hpos : 0 < n) (hle : n ≤ 4)
    (h : ∀ k, k < n → sampleAt S' k = sampleAt S k) : pred m S' n = pred m S n := by
  have hfirst : S'.s0 = S.s0 := h 0 hpos
  have htake : (sampleList S').take n = (sampleList S).take n := by
    rw [take_sampleList S' hle, take_sampleList S hle]
    exact List.map_congr_left fun k hk => h k (List.mem_range.mp hk)
  rw [pred, pred, hfirst, htake]

/-- Settles O40: `pred_iff` and `pred_congr` at the two numbers of samples that a class can have. -/
theorem predicateIsAllPairs : Obligations.PredicateIsAllPairs := by
  unfold Obligations.PredicateIsAllPairs
  intro m S n hn
  exact ⟨pred_iff m S (by omega), fun S' => pred_congr m (by omega) (by omega)⟩

end Sys2Proof.Machine
end

section
/-! PROOFS. The states that fetch no command and wait for no answer: TRN_EVAL's three exits (43 R206 to R208), and ERROR and
DONE, which only reset leaves (43 R212, 60 R237). -/

namespace Sys2Proof.Machine

open Sys2Proof.Config

/-- With no command in flight and `rst` low a step is its state's own action (42 R150). -/
theorem step_of_idle_seq {s : State} {q : FsmState} (hq : s.state = stateCode q) (hseq : s.seq = seqCode .idle)
    (hrst : (pinsNow s).rst = false) : step s = fsmAct (pinsNow s) q (takePins s) := by
  simp [step, machineStep, pinStep, fsmStep, hq, hseq, hrst]

/-! ### ERROR and DONE -/

theorem step_of_error_or_done {s : State} (hs : s.state = stateCode .error ∨ s.state = stateCode .done)
    (hseq : s.seq = seqCode .idle) (hrst : (pinsNow s).rst = false) : step s = .next (takePins s) := by
  rcases hs with herror | hdone
  · exact step_of_idle_seq herror hseq hrst
  · exact step_of_idle_seq hdone hseq hrst

/-- Settles O26: without reset these states only take the pins; with it the step is the reset edge. -/
theorem onlyResetLeavesErrorAndDone : Obligations.OnlyResetLeavesErrorAndDone := by
  unfold Obligations.OnlyResetLeavesErrorAndDone
  intro s hs hseq
  exact ⟨step_of_error_or_done hs hseq, fun hrst => ⟨resetEdge (takePins s), step_of_rst hrst, by simp⟩⟩

/-! ### TRN_EVAL -/

section Eval

variable {s : State} {d : Density}

theorem trnEval_of_pred (hd : classOf s.dens = some d) (hp : pred s.cfg.trn.diffMode s.S (nsamp s.cfg d) = true) :
    trnEval s = .next (converge s) := by
  simp [trnEval, hd, hp]

theorem trnEval_of_attempt_lt (hd : classOf s.dens = some d)
    (hp : pred s.cfg.trn.diffMode s.S (nsamp s.cfg d) = false) (hleft : s.attempt.toNat < attemptMax) :
    trnEval s = .next (enterTrnPulse s) := by
  simp [trnEval, hd, hp, hleft]

theorem trnEval_of_attempt_eq (hd : classOf s.dens = some d)
    (hp : pred s.cfg.trn.diffMode s.S (nsamp s.cfg d) = false) (hlast : s.attempt.toNat = attemptMax) :
    trnEval s = .next (enter .portEn s) := by
  simp [trnEval, hd, hp, hlast]

/-- The counter's last value lies above `ATTEMPT_MAX`, so where an attempt is allowed the counter counts. -/
theorem nextAttempt_of_le (h : s.attempt.toNat ≤ attemptMax) : nextAttempt s = s.attempt + 1 := by
  apply nextAttempt_of_ne
  intro hlast
  simp [hlast, attemptMax] at h

end Eval

/-- Settles O28: the step is TRN_EVAL's own, and its exit is `converge`. -/
theorem convergenceGoesToPortEn : Obligations.ConvergenceGoesToPortEn := by
  unfold Obligations.ConvergenceGoesToPortEn
  intro s d hs hseq hrst hd hp
  rw [step_of_idle_seq hs hseq hrst]
  exact trnEval_of_pred (s := takePins s) hd hp

/-- Settles O29: the exit is `enterTrnPulse`, whose counter is below its last value. -/
theorem failedAttemptIsRetried : Obligations.FailedAttemptIsRetried := by
  unfold Obligations.FailedAttemptIsRetried
  intro s d hs hseq hrst hd hp hleft
  have hcount : nextAttempt (takePins s) = s.attempt + 1 := nextAttempt_of_le (s := takePins s) hleft.le
  rw [step_of_idle_seq hs hseq hrst, ← hcount]
  exact trnEval_of_attempt_lt (s := takePins s) hd hp hleft

/-- Settles O30: the exit enters PORT_EN and writes no flag and no error field. -/
theorem exhaustionGoesToPortEn : Obligations.ExhaustionGoesToPortEn := by
  unfold Obligations.ExhaustionGoesToPortEn
  intro s d hs hseq hrst hd hp hlast
  rw [step_of_idle_seq hs hseq hrst]
  exact trnEval_of_attempt_eq (s := takePins s) hd hp hlast

end Sys2Proof.Machine
end

section
/-! PROOFS. The attempt counter (43 R201): entry into TRN_PULSE counts, reset and start acceptance clear, and every other
operation leaves it and enters neither TRN_PULSE nor ENTRY_RST. -/

namespace Sys2Proof.Machine

open Sys2Proof.Config

/-- The counter stays, and so does the state unless another than TRN_PULSE and ENTRY_RST is entered. -/
def AttemptKept (s t : State) : Prop :=
  t.attempt = s.attempt ∧ (t.state = s.state ∨ (t.state ≠ stateCode .trnPulse ∧ t.state ≠ stateCode .entryRst))

/-- TRN_PULSE is entered from a state that R201 counts from. -/
def AttemptCounted (s t : State) : Prop :=
  t.attempt = nextAttempt s ∧ t.state = stateCode .trnPulse ∧
    (s.state = stateCode .trnHs ∨ s.state = stateCode .trnEval)

/-- A start request is accepted (42 R152). -/
def AttemptCleared (s t : State) : Prop :=
  t.attempt = 0 ∧ s.state = stateCode .idle ∧ t.state = stateCode .entryRst

/-! ### One lemma per operation that answers a next state -/

section Operations

variable {s t : State}

theorem raiseErr_attemptKept (e : ErrCode) (s : State) : AttemptKept s (raiseErr e s) :=
  ⟨raiseErr_attempt e s, .inr (by simp)⟩

theorem issue_attemptKept {i : Instr} {q : SeqState} (h : issue i q s = .next t) : AttemptKept s t := by
  rcases issue_cases h with ⟨-, ht⟩ | ⟨-, ht⟩ <;> cases ht
  · exact ⟨rfl, .inl rfl⟩
  · exact raiseErr_attemptKept .illegalCmd (setCur (encode i) s)

theorem complete_attemptKept {p : Pins} (h : complete p s = .next t) : AttemptKept s t := by
  rcases complete_cases h with ht | ⟨-, -, ht⟩ | ⟨-, -, ht⟩ | ⟨-, -, ht⟩ | ⟨-, -, ht⟩ | ⟨-, -, ht⟩ | ⟨-, ht⟩ <;>
    cases ht <;> exact ⟨rfl, .inl rfl⟩

theorem enter_attemptKept {q : FsmState} (s : State) (hpulse : q ≠ .trnPulse) (hentry : q ≠ .entryRst) :
    AttemptKept s (enter q s) :=
  ⟨rfl, .inr (by simp [hpulse, hentry])⟩

theorem enterTrnPulse_attemptCounted (h : s.state = stateCode .trnHs ∨ s.state = stateCode .trnEval) :
    AttemptCounted s (enterTrnPulse s) :=
  ⟨rfl, rfl, h⟩

theorem endSegment_attempt (h : endSegment s = .next t) : AttemptKept s t ∨ AttemptCounted s t := by
  rcases endSegment_cases h with ⟨q, q', -, hrow, ht⟩ | ⟨hq, ht⟩ | ⟨-, ht⟩ | ⟨-, ht⟩ <;> cases ht
  · obtain ⟨hpulse, hentry⟩ : q' ≠ .trnPulse ∧ q' ≠ .entryRst := by
      rcases hrow with ⟨-, rfl⟩ | ⟨-, rfl⟩ | ⟨-, rfl⟩ | ⟨-, rfl⟩ | ⟨-, rfl⟩ | ⟨-, rfl⟩ <;> simp
    exact .inl (enter_attemptKept s hpulse hentry)
  · exact .inr (enterTrnPulse_attemptCounted (.inl (stateOf_eq_some.mp hq)))
  · exact .inl ⟨rfl, .inr (by simp)⟩

theorem exec_attempt {i : Instr} (h : exec i s = .next t) : AttemptKept s t ∨ AttemptCounted s t := by
  cases i with
  | wr sp off imm => exact .inl (issue_attemptKept h)
  | rd slot sp off => exact .inl (issue_attemptKept h)
  | rmw sp off lsb wm1 imm => exact .inl (issue_attemptKept h)
  | dly ns => exact .inl (issue_attemptKept (i := .dly ns) (q := .dly) h)
  | endSeg => exact endSegment_attempt (s := setCur (encode .endSeg) s) h

theorem fetchExec_attempt (h : fetchExec s = .next t) : AttemptKept s t ∨ AttemptCounted s t := by
  rcases fetchExec_cases h with ⟨-, ht⟩ | ⟨c, i, -, -, ht⟩ | ⟨c, e, -, -, ht⟩
  · cases ht
  · exact exec_attempt (s := setCur c s) ht.symm
  · cases ht
    exact .inl (raiseErr_attemptKept .illegalCmd (setCur c s))

theorem trnEval_attempt (hs : s.state = stateCode .trnEval) (h : trnEval s = .next t) :
    AttemptKept s t ∨ AttemptCounted s t := by
  rcases trnEval_cases h with ⟨-, ht⟩ | ⟨d, -, ⟨-, ht⟩ | ⟨-, ⟨-, ht⟩ | ⟨-, ht⟩ | ⟨-, ht⟩⟩⟩ <;> cases ht
  · exact .inl ⟨rfl, .inr (by simp)⟩
  · exact .inr (enterTrnPulse_attemptCounted (.inr hs))
  · exact .inl (enter_attemptKept s (by simp) (by simp))

theorem idleStep_attempt (p : Pins) (hs : s.state = stateCode .idle) :
    AttemptKept s (idleStep p s) ∨ AttemptCleared s (idleStep p s) := by
  rcases idleStep_cases p s with ⟨-, hi⟩ | ⟨-, -, hi⟩ | ⟨-, -, hi⟩ <;> rw [hi]
  · exact .inl ⟨rfl, .inl rfl⟩
  · exact .inr ⟨rfl, hs, rfl⟩
  · exact .inl (raiseErr_attemptKept .illegalDensity { s with dens := p.density })

/-- Along the cases of a step (42 R150, 70 R260); the pins are taken before the block acts. -/
theorem step_attempt (h : step s = .next t) :
    ((pinsNow s).rst = true ∧ t.attempt = 0 ∧ t.state = stateCode .idle) ∨
      ((pinsNow s).rst = false ∧
        (AttemptKept (takePins s) t ∨ AttemptCounted (takePins s) t ∨ AttemptCleared (takePins s) t)) := by
  rcases step_cases h with ⟨hrst, hreset⟩ | ⟨hrst, -, hunused⟩ | ⟨hrst, -, -, hcomplete⟩ | ⟨hrst, hq, -, hidle⟩ |
    ⟨hrst, hq, -, heval⟩ | ⟨hrst, -, -, hwait⟩ | ⟨hrst, -, -, hfetch⟩
  · cases hreset
    exact .inl ⟨hrst, by simp⟩
  · cases hunused
    exact .inr ⟨hrst, .inl (raiseErr_attemptKept .illegalState (takePins s))⟩
  · exact .inr ⟨hrst, .inl (complete_attemptKept hcomplete.symm)⟩
  · cases hidle
    have hmove := idleStep_attempt (s := takePins s) (pinsNow s) (stateOf_eq_some.mp hq)
    exact .inr ⟨hrst, hmove.imp_right .inr⟩
  · have hmove := trnEval_attempt (s := takePins s) (stateOf_eq_some.mp hq) heval.symm
    exact .inr ⟨hrst, hmove.imp_right .inl⟩
  · cases hwait
    exact .inr ⟨hrst, .inl ⟨rfl, .inl rfl⟩⟩
  · have hmove := fetchExec_attempt hfetch.symm
    exact .inr ⟨hrst, hmove.imp_right .inl⟩

end Operations

/-- Settles O31: reset, and the three ways of any other step; the range of `attempt` makes the counter count by 1. -/
theorem attemptWrittenOnlyOnEntry : Obligations.AttemptWrittenOnlyOnEntry := by
  unfold Obligations.AttemptWrittenOnlyOnEntry
  intro s t hstep hrange
  rcases step_attempt hstep with ⟨hrst, hzero, hidle⟩ |
    ⟨hrst, ⟨hkept, hstate⟩ | ⟨hcount, hpulse, hfrom⟩ | ⟨hzero, hidle, hentry⟩⟩
  · simp [hrst, hzero, hidle]
  · refine ⟨.inl hkept, fun hs ht => ?_, fun hclear => ?_⟩
    · rcases hstate with hsame | ⟨hpulse, -⟩
      · exact absurd (hsame.symm.trans ht) hs
      · exact absurd ht hpulse
    · obtain hreset | ⟨hidle, hentry⟩ := hclear
      · simp [hrst] at hreset
      · rcases hstate with hsame | ⟨-, hne⟩
        · simp [hidle, hentry] at hsame
        · exact absurd hentry hne
  · rw [nextAttempt_of_le (s := takePins s) hrange] at hcount
    refine ⟨.inr (.inr ⟨hcount, hpulse, hfrom⟩), fun _ _ => hcount, ?_⟩
    simp [hrst, hpulse]
  · refine ⟨.inr (.inl ⟨hzero, .inr ⟨hidle, hentry⟩⟩), ?_, fun _ => hzero⟩
    simp [hentry]

end Sys2Proof.Machine
end

section
/-! PROOFS. The encoding (30 R81 to R84): when each decoder answers a command, and from that the round trips and the
legality test. -/

namespace Sys2Proof

/-! ### The unused bits of DLY and END -/

theorem extractLsb'_eq_zero {w : Nat} (c : BitVec w) (k n : Nat) :
    c.extractLsb' k n = 0 ↔ ∀ i < n, c.getLsbD (k + i) = false := by
  constructor
  · intro h i hi
    have hbit := congrArg (BitVec.getLsbD · i) h
    simpa [hi] using hbit
  · intro h
    ext i hi
    simpa using h i hi

/-- A slice is 0 exactly when its upper and its lower part are. -/
theorem extractLsb'_add_eq_zero {w : Nat} (c : BitVec w) (k m n : Nat) :
    c.extractLsb' k (m + n) = 0 ↔ c.extractLsb' (k + n) m = 0 ∧ c.extractLsb' k n = 0 := by
  simp only [extractLsb'_eq_zero]
  constructor
  · intro h
    exact ⟨fun i hi => by rw [Nat.add_assoc]; exact h (n + i) (by omega), fun i hi => h i (by omega)⟩
  · rintro ⟨hupper, hlower⟩ i hi
    by_cases hin : i < n
    · exact hlower i hin
    · have hbit := hupper (i - n) (by omega)
      rwa [Nat.add_assoc, Nat.add_sub_cancel' (by omega)] at hbit

theorem unused_dly (c : Cmd) :
    c.extractLsb' 32 28 = 0 ↔ cmdSp c = 0 ∧ cmdSlot c = 0 ∧ cmdOff c = 0 ∧ cmdLsb c = 0 ∧ cmdWm1 c = 0 := by
  rw [extractLsb'_add_eq_zero c 32 2 26, extractLsb'_add_eq_zero c 32 2 24, extractLsb'_add_eq_zero c 32 16 8,
    extractLsb'_add_eq_zero c 32 5 3]
  rfl

theorem unused_end (c : Cmd) :
    c.extractLsb' 0 60 = 0 ↔
      (cmdSp c = 0 ∧ cmdSlot c = 0 ∧ cmdOff c = 0 ∧ cmdLsb c = 0 ∧ cmdWm1 c = 0) ∧ cmdImm c = 0 := by
  rw [extractLsb'_add_eq_zero c 0 28 32, ← unused_dly]
  rfl

/-! ### When a decoder answers a command -/

section Decoders

variable {c : Cmd} {i : Instr}

theorem decodeWr_eq_ok : decodeWr c = .ok i ↔
    (cmdSlot c = 0 ∧ cmdLsb c = 0 ∧ cmdWm1 c = 0) ∧ offAligned (cmdOff c) = true ∧
      i = .wr (spaceOfCode (cmdSp c)) (cmdOff c) (cmdImm c) := by
  unfold decodeWr
  grind

theorem decodeRd_eq_ok : decodeRd c = .ok i ↔
    (cmdLsb c = 0 ∧ cmdWm1 c = 0 ∧ cmdImm c = 0) ∧ offAligned (cmdOff c) = true ∧
      i = .rd (cmdSlot c) (spaceOfCode (cmdSp c)) (cmdOff c) := by
  unfold decodeRd
  grind

theorem decodeRmw_eq_ok : decodeRmw c = .ok i ↔
    cmdSlot c = 0 ∧ (Instr.rmw (spaceOfCode (cmdSp c)) (cmdOff c) (cmdLsb c) (cmdWm1 c) (cmdImm c)).wf = true ∧
      i = .rmw (spaceOfCode (cmdSp c)) (cmdOff c) (cmdLsb c) (cmdWm1 c) (cmdImm c) := by
  unfold decodeRmw
  grind [Instr.wf]

theorem decodeDly_eq_ok : decodeDly c = .ok i ↔ c.extractLsb' 32 28 = 0 ∧ i = .dly (cmdImm c) := by
  unfold decodeDly
  grind

theorem decodeEnd_eq_ok : decodeEnd c = .ok i ↔ c.extractLsb' 0 60 = 0 ∧ i = .endSeg := by
  unfold decodeEnd
  grind

end Decoders

/-- The decoder is that of the word's operation (R82). -/
theorem decode_eq_ok {c : Cmd} {i : Instr} : decode c = .ok i ↔
    (cmdOp c = 0x1 ∧ decodeWr c = .ok i) ∨ (cmdOp c = 0x2 ∧ decodeRd c = .ok i) ∨
      (cmdOp c = 0x3 ∧ decodeRmw c = .ok i) ∨ (cmdOp c = 0x4 ∧ decodeDly c = .ok i) ∨
      (cmdOp c = 0xF ∧ decodeEnd c = .ok i) := by
  unfold decode
  split_ifs <;> simp_all

/-! ### The round trips -/

theorem decode_encode {i : Instr} (h : i.wf = true) : decode (encode i) = .ok i := by
  rw [decode_eq_ok]
  cases i with
  | wr sp off imm => exact .inl ⟨by simp [encode], by simpa [decodeWr_eq_ok, encode, Instr.wf] using h⟩
  | rd slot sp off => exact .inr (.inl ⟨by simp [encode], by simpa [decodeRd_eq_ok, encode, Instr.wf] using h⟩)
  | rmw sp off lsb wm1 imm =>
    exact .inr (.inr (.inl ⟨by simp [encode], by simpa [decodeRmw_eq_ok, encode] using h⟩))
  | dly ns =>
    have hdecode : decodeDly (encode (.dly ns)) = .ok (.dly ns) :=
      decodeDly_eq_ok.mpr ⟨(unused_dly _).mpr (by simp [encode]), by simp [encode]⟩
    exact .inr (.inr (.inr (.inl ⟨by simp [encode], hdecode⟩)))
  | endSeg =>
    have hdecode : decodeEnd (encode .endSeg) = .ok .endSeg :=
      decodeEnd_eq_ok.mpr ⟨(unused_end _).mpr (by simp [encode]), rfl⟩
    exact .inr (.inr (.inr (.inr ⟨by simp [encode], hdecode⟩)))

/-- The fields a decoder tests for 0 are those its command does not have, so the word is put together again from the
command alone. -/
theorem wf_and_encode_of_decode {c : Cmd} {i : Instr} (h : decode c = .ok i) : i.wf = true ∧ encode i = c := by
  have hfields := assembleWord_fields c
  rcases decode_eq_ok.mp h with ⟨hop, hwr⟩ | ⟨hop, hrd⟩ | ⟨hop, hrmw⟩ | ⟨hop, hdly⟩ | ⟨hop, hend⟩
  · obtain ⟨⟨hslot, hlsb, hwm1⟩, haligned, rfl⟩ := decodeWr_eq_ok.mp hwr
    exact ⟨haligned, by simpa [encode, hop, hslot, hlsb, hwm1] using hfields⟩
  · obtain ⟨⟨hlsb, hwm1, himm⟩, haligned, rfl⟩ := decodeRd_eq_ok.mp hrd
    exact ⟨haligned, by simpa [encode, hop, hlsb, hwm1, himm] using hfields⟩
  · obtain ⟨hslot, hwf, rfl⟩ := decodeRmw_eq_ok.mp hrmw
    exact ⟨hwf, by simpa [encode, hop, hslot] using hfields⟩
  · obtain ⟨hunused, rfl⟩ := decodeDly_eq_ok.mp hdly
    obtain ⟨hsp, hslot, hoff, hlsb, hwm1⟩ := (unused_dly c).mp hunused
    exact ⟨rfl, by simpa [encode, hop, hsp, hslot, hoff, hlsb, hwm1] using hfields⟩
  · obtain ⟨hunused, rfl⟩ := decodeEnd_eq_ok.mp hend
    obtain ⟨⟨hsp, hslot, hoff, hlsb, hwm1⟩, himm⟩ := (unused_end c).mp hunused
    exact ⟨rfl, by simpa [encode, hop, hsp, hslot, hoff, hlsb, hwm1, himm] using hfields⟩

/-- Settles O1: operation by operation, each decoder answers the fields the encoder placed. -/
theorem decodeReadsEncodedCommand : Obligations.DecodeReadsEncodedCommand := by
  unfold Obligations.DecodeReadsEncodedCommand
  exact fun i => decode_encode

/-- Settles O2: `wf_and_encode_of_decode` at every word. -/
theorem decodedWordIsItsEncoding : Obligations.DecodedWordIsItsEncoding := by
  unfold Obligations.DecodedWordIsItsEncoding
  exact fun c i => wf_and_encode_of_decode

/-- Settles O4: the decoder evaluated on the vectors of 95 section 2.3. -/
theorem vectorWordsDecode : Obligations.VectorWordsDecode := by
  unfold Obligations.VectorWordsDecode
  decide

/-! ### Legality (R84) -/

/-- The legality test of a word is the test of its operation's decoder, field by field. -/
theorem legal_iff_decodes (c : Cmd) : legal c = true ↔ ∃ i, decode c = .ok i := by
  have halign := aligned_slice c
  have hunused := unused_lsb_wm1 c
  unfold legal decode
  split_ifs
  · simp only [decodeWr_eq_ok, exists_and_left, exists_eq, and_true, Bool.and_eq_true, beq_iff_eq, halign, hunused]
    simp [cmdSlot, and_assoc]
  · simp only [decodeRd_eq_ok, exists_and_left, exists_eq, and_true, Bool.and_eq_true, beq_iff_eq, halign, hunused]
    simp [cmdImm]; tauto
  · have hslot : c.extractLsb' 56 2 = cmdSlot c := rfl
    have hlsb : c.extractLsb' 35 5 = cmdLsb c := rfl
    have hwm1 : c.extractLsb' 32 3 = cmdWm1 c := rfl
    have himm : c.extractLsb' 0 32 = cmdImm c := rfl
    simp only [decodeRmw_eq_ok, exists_and_left, exists_eq, and_true, Bool.and_eq_true, beq_iff_eq, halign, Instr.wf,
      fieldInWord, valueInField, hslot, hlsb, hwm1, himm, and_assoc]
  · simp [decodeDly_eq_ok]
  · simp [decodeEnd_eq_ok]
  · simp

theorem decode_error_of_not_legal {c : Cmd} (h : legal c = false) : ∃ e, decode c = .error e := by
  cases hd : decode c with
  | error e => exact ⟨e, rfl⟩
  | ok i => simp [(legal_iff_decodes c).mpr ⟨i, hd⟩] at h

theorem legal_encode {i : Instr} (h : i.wf = true) : legal (encode i) = true :=
  (legal_iff_decodes _).mpr ⟨i, decode_encode h⟩

end Sys2Proof
end

section
/-! PROOFS. The commands (41 R130 to R137): what executing one can do, the access it puts in flight, and what its completion
writes and keeps. -/

namespace Sys2Proof.Machine

open Sys2Proof.Config Sys2Proof.Safety

/-! ### The command in flight, read from `cur` (10 R20) -/

/-- The space and the offset a command accesses. -/
def placeOf : Instr → Option (Space × Off)
  | .wr sp off _ => some (sp, off)
  | .rd _ sp off => some (sp, off)
  | .rmw sp off _ _ _ => some (sp, off)
  | .dly _ => none
  | .endSeg => none

theorem curAddr_of_cur {s : State} {i : Instr} {sp : Space} {off : Off} (hcur : s.cur = encode i)
    (hplace : placeOf i = some (sp, off)) : curAddr s = physAddr s.cfg sp off := by
  cases i with
  | wr | rd | rmw =>
    cases hplace
    simp [curAddr, hcur, encode]
  | dly | endSeg => cases hplace

theorem cmdImm_of_wr {s : State} {sp : Space} {off : Off} {imm : Word} (hcur : s.cur = encode (.wr sp off imm)) :
    cmdImm s.cur = imm := by
  simp [hcur, encode]

theorem cmdSlot_of_rd {s : State} {k : BitVec 2} {sp : Space} {off : Off} (hcur : s.cur = encode (.rd k sp off)) :
    cmdSlot s.cur = k := by
  simp [hcur, encode]

theorem cmdImm_of_dly {s : State} {ns : Word} (hcur : s.cur = encode (.dly ns)) : cmdImm s.cur = ns := by
  simp [hcur, encode]

theorem curMerged_of_rmw {s : State} {sp : Space} {off : Off} {lsb : BitVec 5} {wm1 : BitVec 3} {imm : Word}
    (hcur : s.cur = encode (.rmw sp off lsb wm1 imm)) : curMerged s = rmwMerge lsb wm1 imm s.rmwOld := by
  simp [curMerged, hcur, encode]

section InFlight

variable {s : State}

theorem inFlight_of_wr (h : s.seq = seqCode .wr) : inFlight s = some (.write (curAddr s) (cmdImm s.cur)) := by
  simp [inFlight, h]

theorem inFlight_of_rd (h : s.seq = seqCode .rd) : inFlight s = some (.read (curAddr s)) := by
  simp [inFlight, h]

theorem inFlight_of_rmwRd (h : s.seq = seqCode .rmwRd) : inFlight s = some (.read (curAddr s)) := by
  simp [inFlight, h]

theorem inFlight_of_rmwWr (h : s.seq = seqCode .rmwWr) : inFlight s = some (.write (curAddr s) (curMerged s)) := by
  simp [inFlight, h]

theorem inFlight_of_dly (h : s.seq = seqCode .dly) : inFlight s = none := by
  simp [inFlight, h]

end InFlight

/-! ### Execution -/

/-- With nothing in flight an error abandons nothing, and its entry writes the error fields and the position alone. -/
theorem raiseErr_of_seq_idle {s : State} (e : ErrCode) (h : s.seq = seqCode .idle) :
    raiseErr e s =
      { s with
        err := true, errCode := errCodeBits e, errState := s.state, errStep := s.step
        state := stateCode .error, step := 0 } := by
  rw [raiseErr, withdraw_of_idle (inFlight_of_seq_idle h), ← h]

/-- A command with a sub-state of its own is issued into the first of them (R135). -/
theorem exec_eq_issue {i : Instr} {k : SeqState} (s : State) (hk : (flightOf i).head? = some k) :
    exec i s = issue i k s := by
  cases i with
  | wr | rd | rmw | dly =>
    cases hk
    rfl
  | endSeg => cases hk

theorem exec_of_wf {i : Instr} {k : SeqState} (s : State) (hk : (flightOf i).head? = some k) (hwf : i.wf = true) :
    exec i s = .next (issued i k s) := by
  rw [exec_eq_issue s hk, issue, if_pos hwf]

/-- DLY and END have no ill-formed operand, so an ill-formed command is one that is issued. -/
theorem exec_of_not_wf {i : Instr} (s : State) (hwf : i.wf = false) :
    exec i s = .next (raiseErr .illegalCmd (setCur (encode i) s)) := by
  have hne : ¬ i.wf = true := by simp [hwf]
  cases i with
  | wr | rd | rmw => rw [exec_eq_issue s rfl, issue, if_neg hne]
  | dly | endSeg => cases hwf

/-- What executing a command can do: it is issued, it is refused, or it ends the segment (R134 to R136). -/
theorem exec_cases {i : Instr} {s : State} {r : Result} (h : exec i s = r) :
    (∃ k, (flightOf i).head? = some k ∧ i.wf = true ∧ r = .next (issued i k s)) ∨
    (i.wf = false ∧ r = .next (raiseErr .illegalCmd (setCur (encode i) s))) ∨
    (i = .endSeg ∧ r = endSegment (setCur (encode .endSeg) s)) := by
  subst h
  cases hwf : i.wf with
  | false => exact .inr (.inl ⟨rfl, exec_of_not_wf s hwf⟩)
  | true =>
    cases i with
    | wr | rd | rmw | dly => exact .inl ⟨_, rfl, rfl, exec_of_wf s rfl hwf⟩
    | endSeg => exact .inr (.inr ⟨rfl, rfl⟩)

/-- Settles O11: the refusal is the error entry on the state whose `cur` is the command's word. -/
theorem illFormedCommandTakesIllegalCmd : Obligations.IllFormedCommandTakesIllegalCmd := by
  unfold Obligations.IllFormedCommandTakesIllegalCmd
  intro i s hwf hseq
  rw [exec_of_not_wf s hwf, raiseErr_of_seq_idle .illegalCmd (s := setCur (encode i) s) hseq]
  rfl

/-- What `exec` of an ill-formed command shows wherever it is asked of the refusal alone. -/
theorem exec_refusal {i : Instr} (s : State) (hwf : i.wf = false) :
    ∃ t, exec i s = .next t ∧ t.err = true ∧ t.errCode = 2 ∧ t.trace = s.trace :=
  ⟨_, exec_of_not_wf s hwf, by simp [errCodeBits]⟩

/-- Settles O12: issue, refusal and the rows of the END table, each read off field by field. -/
theorem executionFrame : Obligations.ExecutionFrame := by
  unfold Obligations.ExecutionFrame
  intro i s t hexec
  rcases exec_cases hexec with ⟨k, -, -, hissue⟩ | ⟨hwf, hrefuse⟩ | ⟨rfl, hend⟩
  · cases hissue
    simp
  · cases hrefuse
    simp [hwf]
  · rcases endSegment_cases hend.symm with ⟨q, q', -, -, ht⟩ | ⟨hq, ht⟩ | ⟨hq, ht⟩ | ⟨-, ht⟩ <;> cases ht
    · simp
    · have hs : s.state = stateCode .trnHs := stateOf_eq_some.mp hq
      simp [hs]
    · have hs : s.state = stateCode .portEn := stateOf_eq_some.mp hq
      simp [hs]

/-! ### Completion -/

/-- Whether the pins answer what a sub-state waits for: a delay waits for `d_done`, an access for `m_ack` (20 R52, R57). -/
def answered (p : Pins) : SeqState → Bool
  | .idle => false
  | .wr | .rd | .rmwRd | .rmwWr => p.mAck
  | .dly => p.dDone

/-- The completion of what a sub-state has in flight, where a read returns `v`. -/
def completion (v : Word) : SeqState → State → State
  | .idle => id
  | .wr => completeWr
  | .rd => completeRd v
  | .rmwRd => completeRmwRead v
  | .rmwWr => completeRmwWrite
  | .dly => completeDly

/-- R135 in one equation. -/
theorem complete_eq {s : State} {k : SeqState} (p : Pins) (hk : s.seq = seqCode k) :
    complete p s = .next (if answered p k then completion p.mRdata k s else s) := by
  cases k <;> simp only [complete, hk, seqOf_seqCode] <;> rfl

theorem complete_of_answered {s : State} {k : SeqState} {p : Pins} (hk : s.seq = seqCode k)
    (hans : answered p k = true) : complete p s = .next (completion p.mRdata k s) := by
  rw [complete_eq p hk, if_pos hans]

theorem complete_of_unanswered {s : State} {k : SeqState} {p : Pins} (hk : s.seq = seqCode k)
    (hans : answered p k = false) : complete p s = .next s := by
  rw [complete_eq p hk, hans]
  rfl

/-! #### The registers that no completion writes -/

section CompletionFrame

variable (v : Word) (k : SeqState) (s : State)

@[simp] theorem completion_state : (completion v k s).state = s.state := by cases k <;> rfl
@[simp] theorem completion_dens : (completion v k s).dens = s.dens := by cases k <;> rfl
@[simp] theorem completion_attempt : (completion v k s).attempt = s.attempt := by cases k <;> rfl
@[simp] theorem completion_converged : (completion v k s).converged = s.converged := by cases k <;> rfl
@[simp] theorem completion_done : (completion v k s).done = s.done := by cases k <;> rfl
@[simp] theorem completion_err : (completion v k s).err = s.err := by cases k <;> rfl
@[simp] theorem completion_errCode : (completion v k s).errCode = s.errCode := by cases k <;> rfl
@[simp] theorem completion_errState : (completion v k s).errState = s.errState := by cases k <;> rfl
@[simp] theorem completion_errStep : (completion v k s).errStep = s.errStep := by cases k <;> rfl
@[simp] theorem completion_cur : (completion v k s).cur = s.cur := by cases k <;> rfl
@[simp] theorem completion_cfg : (completion v k s).cfg = s.cfg := by cases k <;> rfl
@[simp] theorem completion_segPatch : (completion v k s).segPatch = s.segPatch := by cases k <;> rfl
@[simp] theorem completion_withdrawn : (completion v k s).withdrawn = s.withdrawn := by cases k <;> rfl
@[simp] theorem completion_pins : (completion v k s).pins = s.pins := by cases k <;> rfl

end CompletionFrame

/-! #### The registers and the event of one sub-state's completion -/

theorem completion_S (v : Word) (k : SeqState) (s : State) :
    (completion v k s).S = if k = .rd then writeSample s.S (cmdSlot s.cur) v else s.S := by
  cases k <;> simp [completion]

theorem completion_rmwOld (v : Word) (k : SeqState) (s : State) :
    (completion v k s).rmwOld = if k = .rmwRd then v else s.rmwOld := by
  cases k <;> simp [completion]

/-- The event of a completion (20 R60). -/
def completionEvent (v : Word) (s : State) : SeqState → Option Event
  | .idle => none
  | .wr => some (.write (curAddr s) (cmdImm s.cur))
  | .rd | .rmwRd => some (.read (curAddr s) v)
  | .rmwWr => some (.write (curAddr s) (curMerged s))
  | .dly => some (.delay (cmdImm s.cur))

theorem completion_trace (v : Word) (k : SeqState) (s : State) :
    (completion v k s).trace = s.trace ++ (completionEvent v s k).toList := by
  cases k <;> simp [completion, completionEvent]

/-- What an event does to the last-written words: a write sets the word at its address, and nothing else happens. -/
theorem lastWrite_append_event (es : List Event) (e : Event) (a : Word) :
    lastWrite (es ++ [e]) a =
      match e with
      | .write b v => if b = a then some v else lastWrite es a
      | .read _ _ => lastWrite es a
      | .delay _ => lastWrite es a := by
  rw [lastWrite_append]
  cases e with
  | write b v => by_cases hb : b = a <;> simp [lastWrite, hb]
  | read | delay => simp [lastWrite]

/-- A completion writes at most at the address in `cur`, and only where a write is in flight. -/
theorem lastWrite_completion (v : Word) (k : SeqState) (s : State) (a : Word) :
    lastWrite (completion v k s).trace a =
      if a = curAddr s then
        if k = .wr then some (cmdImm s.cur) else if k = .rmwWr then some (curMerged s) else lastWrite s.trace a
      else lastWrite s.trace a := by
  rw [completion_trace]
  cases k <;> simp [completionEvent, lastWrite_append_event, eq_comm (a := curAddr s)]

/-- Settles O13: the completion in flight, by the lemmas on `completion`. -/
theorem completionFrame : Obligations.CompletionFrame := by
  unfold Obligations.CompletionFrame
  intro p s t hcomplete
  obtain ⟨k, hk⟩ : ∃ k, s.seq = seqCode k := by
    cases hk : seqOf s.seq with
    | none => simp [complete, hk] at hcomplete
    | some k => exact ⟨k, seqOf_eq_some.mp hk⟩
  rw [complete_eq p hk] at hcomplete
  cases hcomplete
  split
  · simp only [completion_state, completion_dens, completion_attempt, completion_converged, completion_done,
      completion_err, completion_errCode, completion_errState, completion_errStep, completion_cur, completion_cfg,
      completion_segPatch, completion_withdrawn, true_and]
    refine ⟨?_, fun j hj => ?_, ?_, fun hwr hrmw a => ?_, fun a ha => ?_⟩
    · simp +contextual [completion_S, hk]
    · rw [completion_S]
      split <;> simp [readSample_writeSample, hj]
    · simp +contextual [completion_rmwOld, hk]
    · simp_all [lastWrite_completion]
    · simp [lastWrite_completion, ha]
  · simp

/-- Settles O14: `lastWrite_completion` at the address in `cur`. -/
theorem completedWriteIsLastWrite : Obligations.CompletedWriteIsLastWrite := by
  unfold Obligations.CompletedWriteIsLastWrite
  intro p s t hack hcomplete
  refine ⟨fun hk => ?_, fun hk => ?_⟩
  · cases (complete_of_answered hk hack).symm.trans hcomplete
    simp [lastWrite_completion]
  · cases (complete_of_answered hk hack).symm.trans hcomplete
    simp [lastWrite_completion]

end Sys2Proof.Machine
end

section
/-! PROOFS. WR, RD, RMW and DLY from issue to completion (41 R130 to R133, R135). -/

namespace Sys2Proof.Machine

open Sys2Proof.Config Sys2Proof.Safety

/-- While a command is in flight, a step without reset is the completion or the wait for it (R135). -/
theorem step_of_flight {s : State} {k : SeqState} (hstate : (stateOf s.state).isSome = true) (hk : s.seq = seqCode k)
    (hidle : k ≠ .idle) (hrst : (pinsNow s).rst = false) : step s = complete (pinsNow s) (takePins s) := by
  obtain ⟨q, hq⟩ := Option.isSome_iff_exists.mp hstate
  simp [step, machineStep, pinStep, fsmStep, hq, hk, hidle, hrst]

theorem step_of_answered {s : State} {k : SeqState} (hstate : (stateOf s.state).isSome = true) (hk : s.seq = seqCode k)
    (hrst : (pinsNow s).rst = false) (hidle : k ≠ .idle) (hans : answered (pinsNow s) k = true) :
    step s = .next (completion (pinsNow s).mRdata k (takePins s)) := by
  rw [step_of_flight hstate hk hidle hrst]
  exact complete_of_answered (s := takePins s) hk hans

theorem step_of_unanswered {s : State} {k : SeqState} (hstate : (stateOf s.state).isSome = true) (hk : s.seq = seqCode k)
    (hrst : (pinsNow s).rst = false) (hidle : k ≠ .idle) (hans : answered (pinsNow s) k = false) :
    step s = .next (takePins s) := by
  rw [step_of_flight hstate hk hidle hrst]
  exact complete_of_unanswered (s := takePins s) hk hans

/-- Below its last value the step counter counts (10 R22). -/
theorem nextStep_of_ne {s : State} (h : s.step ≠ 255) : nextStep s = s.step + 1 := if_neg h

/-- Settles O6: the issued state has the command in `cur`, and its step is the wait or `completeWr`. -/
theorem wrIssuesThenWrites : Obligations.WrIssuesThenWrites := by
  unfold Obligations.WrIssuesThenWrites
  intro sp off imm s issue
  have haddr : curAddr issue = physAddr s.cfg sp off := curAddr_of_cur (i := .wr sp off imm) rfl rfl
  have himm : cmdImm issue.cur = imm := cmdImm_of_wr rfl
  refine ⟨rfl, ?_, exec_of_wf (i := .wr sp off imm) s rfl, exec_refusal (i := .wr sp off imm) s, fun hstate hrst => ?_⟩
  · rw [inFlight_of_wr rfl, haddr, himm]
  · refine ⟨step_of_unanswered (s := issue) (k := .wr) hstate rfl hrst (by simp), fun hack =>
      ⟨_, step_of_answered (s := issue) (k := .wr) hstate rfl hrst (by simp) hack,
        nextStep_of_ne (s := takePins issue), ?_⟩⟩
    rw [← haddr, ← himm]
    rfl

/-- Settles O7: the issued state has the command in `cur`, and its step is the wait or `completeRd`. -/
theorem rdIssuesThenSamples : Obligations.RdIssuesThenSamples := by
  unfold Obligations.RdIssuesThenSamples
  intro k sp off s issue
  have haddr : curAddr issue = physAddr s.cfg sp off := curAddr_of_cur (i := .rd k sp off) rfl rfl
  have hslot : cmdSlot issue.cur = k := cmdSlot_of_rd rfl
  refine ⟨rfl, ?_, exec_of_wf (i := .rd k sp off) s rfl, exec_refusal (i := .rd k sp off) s, fun hstate hrst => ?_⟩
  · rw [inFlight_of_rd rfl, haddr]
  · refine ⟨step_of_unanswered (s := issue) (k := .rd) hstate rfl hrst (by simp), fun hack =>
      ⟨_, step_of_answered (s := issue) (k := .rd) hstate rfl hrst (by simp) hack,
        nextStep_of_ne (s := takePins issue), ?_, ?_, ?_⟩⟩
    · simp [completion_S, hslot, readSample_writeSample, issue, pinsNow]
    · intro j hj
      simp [completion_S, hslot, readSample_writeSample, hj, issue]
    · rw [← haddr]
      rfl

/-- Settles O8: the read half leaves `half`, whose `rmw_old` is the value read, and the write half writes the merge. -/
theorem rmwReadsThenWritesField : Obligations.RmwReadsThenWritesField := by
  unfold Obligations.RmwReadsThenWritesField
  intro sp off lsb wm1 imm s i addr old mask new issue half
  have haddr : curAddr issue = addr := curAddr_of_cur (i := i) rfl rfl
  have hhalfAddr : curAddr half = addr := curAddr_of_cur (i := i) rfl rfl
  have hmerged : curMerged half = new := curMerged_of_rmw rfl
  refine ⟨rfl, ?readFlight, ?writeFlight, ?wf, exec_of_wf s rfl, exec_refusal s, fun hstate hrst => ?readHalf,
    fun hstate hrst => ?writeHalf⟩
  case readFlight => rw [inFlight_of_rmwRd rfl, haddr]
  case writeFlight => rw [inFlight_of_rmwWr rfl, hhalfAddr, hmerged]
  case wf => simp [i, Instr.wf, offAligned, fieldInWord, valueInField, and_assoc, Nat.add_assoc]
  case readHalf =>
    refine ⟨step_of_unanswered (s := issue) (k := .rmwRd) hstate rfl hrst (by simp), fun hack => ?_⟩
    rw [step_of_answered (s := issue) (k := .rmwRd) hstate rfl hrst (by simp) hack]
    simp only [half, ← haddr]
    rfl
  case writeHalf =>
    refine ⟨step_of_unanswered (s := half) (k := .rmwWr) hstate rfl hrst (by simp), fun hack =>
      ⟨_, step_of_answered (s := half) (k := .rmwWr) hstate rfl hrst (by simp) hack,
        nextStep_of_ne (s := takePins half), ?_⟩⟩
    have htrace : (completion (pinsNow half).mRdata .rmwWr (takePins half)).trace =
        s.trace ++ [.read addr old, .write addr new] := by
      have hread : half.trace = s.trace ++ [.read addr old] := rfl
      clear_value half
      simp [completion_trace, completionEvent, hhalfAddr, hmerged, hread]
    rw [← htrace]
    rfl

/-- Settles O9: the issued state asks for the delay, and its step is the wait or `completeDly`. -/
theorem dlyIssuesThenExpires : Obligations.DlyIssuesThenExpires := by
  unfold Obligations.DlyIssuesThenExpires
  intro ns s issue
  have himm : cmdImm issue.cur = ns := cmdImm_of_dly rfl
  have hnone : inFlight issue = none := inFlight_of_dly rfl
  refine ⟨rfl, exec_of_wf (i := .dly ns) s rfl rfl, hnone, ?_, fun hstate hrst => ?_⟩
  · simp [portOutputs, hnone, himm, issue]
  · refine ⟨step_of_unanswered (s := issue) (k := .dly) hstate rfl hrst (by simp), fun hdone =>
      ⟨_, step_of_answered (s := issue) (k := .dly) hstate rfl hrst (by simp) hdone,
        nextStep_of_ne (s := takePins issue), ?_⟩⟩
    rw [← himm]
    rfl

end Sys2Proof.Machine
end

section
/-! PROOFS. The step (42 R150): reset, start, fetch and execute, the unused codes, and what the pins do not reach. -/

namespace Sys2Proof.Machine

open Sys2Proof.Config Sys2Proof.Safety

/-! ### Fetch and execute -/

/-- In a command-bearing state with nothing in flight the step fetches. -/
theorem step_of_inSegment {s : State} (hrst : (pinsNow s).rst = false) (hseg : inSegment s)
    (hseq : s.seq = seqCode .idle) : step s = fetchExec (takePins s) := by
  obtain ⟨q, hq, hbears⟩ := hseg
  rw [step_of_idle_seq (stateOf_eq_some.mp hq) hseq hrst]
  cases q with
  | entryRst | clkSel | phyCfg | ctrlCfg | trnHs | trnPulse | trnSample | portEn => rfl
  | idle | trnEval | done | error => cases hbears

theorem fetchExec_of_decode {s : State} {c : Cmd} {i : Instr} (hfetch : fetch s = some c) (hdecode : decode c = .ok i) :
    fetchExec s = exec i (setCur c s) := by
  simp [fetchExec, hfetch, hdecode]

theorem fetchExec_of_not_legal {s : State} {c : Cmd} (hfetch : fetch s = some c) (hlegal : legal c = false) :
    fetchExec s = .next (raiseErr .illegalCmd (setCur c s)) := by
  obtain ⟨e, hdecode⟩ := decode_error_of_not_legal hlegal
  simp [fetchExec, hfetch, hdecode]

/-- Settles O3: the legality test is the decoder's, and the refusal is the error entry with nothing in flight. -/
theorem exactlyLegalWordsAreCommands : Obligations.ExactlyLegalWordsAreCommands := by
  unfold Obligations.ExactlyLegalWordsAreCommands
  refine fun c => ⟨(legal_iff_decodes c).symm, fun s hrst hseg hseq hfetch hlegal => ?_⟩
  rw [step_of_inSegment hrst hseg hseq, fetchExec_of_not_legal (s := takePins s) hfetch hlegal,
    raiseErr_of_seq_idle .illegalCmd (s := setCur c (takePins s)) hseq, ← hseq]
  rfl

/-- Settles O15: the fetched word decodes, so the step is `exec`. -/
theorem stepRunsDecodedCommand : Obligations.StepRunsDecodedCommand := by
  unfold Obligations.StepRunsDecodedCommand
  intro s c i hrst hseg hseq hfetch hdecode
  rw [step_of_inSegment hrst hseg hseq]
  exact fetchExec_of_decode (s := takePins s) hfetch hdecode

/-- Undamaged storage holds the segment's words (R151). -/
theorem fetch_of_segment {s : State} {q : FsmState} {d : Density} {i : Instr} (hpatch : s.segPatch = [])
    (hq : stateOf s.state = some q) (hd : classOf s.dens = some d)
    (hi : (segInstrs q d s.cfg)[s.step.toNat]? = some i) : fetch s = some (encode i) := by
  simp [fetch, hpatch, patchAt, segWord, hq, hd, seg, hi]

/-- Settles O16: `fetch_of_segment`. -/
theorem fetchReadsSegment : Obligations.FetchReadsSegment := by
  unfold Obligations.FetchReadsSegment
  exact fun s q d i => fetch_of_segment

/-- A command is placed in a state that bears commands (log 14). -/
theorem inSegment_placeWord (s : State) (c : Cmd) : inSegment (placeWord s c) := by
  simp only [inSegment, placeWord_state, placeState]
  split
  next q hq =>
    split
    next hbears => exact ⟨q, hq, hbears⟩
    next => exact ⟨.entryRst, rfl, rfl⟩
  next => exact ⟨.entryRst, rfl, rfl⟩

theorem fetch_placeWord (s : State) (c : Cmd) : fetch (placeWord s c) = some c := by
  simp [fetch, patchAt]

theorem decode_of_decodeTableWord {w : Nat} {i : Instr} (h : decodeTableWord 64 w = some i) :
    w < 2 ^ 64 ∧ decode (BitVec.ofNat 64 w) = .ok i := by
  unfold decodeTableWord at h
  split at h
  next hw =>
    refine ⟨hw.2, ?_⟩
    split at h
    next j hj => rw [hj, Option.some.inj h]
    next => cases h
  next => cases h

/-- Settles O17: the placed word is the one fetched, under the quiet pins that are placed with it. -/
theorem placedWordIsExecuted : Obligations.PlacedWordIsExecuted := by
  unfold Obligations.PlacedWordIsExecuted
  intro s w i htable
  obtain ⟨hw, hdecode⟩ := decode_of_decodeTableWord htable
  have hplaced : s.withFetchWord 64 w = placeWord s (BitVec.ofNat 64 w) := by
    rw [State.withFetchWord, Nat.mod_eq_of_lt hw]
  rw [hplaced]
  exact stepRunsDecodedCommand _ _ _ rfl (inSegment_placeWord s _) rfl (fetch_placeWord s _) hdecode

/-! ### Start (R152, R153) -/

theorem classOf_isSome_iff : ∀ b : BitVec 3, (classOf b).isSome = true ↔ b.toNat ≤ 4 := by decide

/-- Settles O20: `idleStep` without a start, and with one whose class is legal. -/
theorem startIsAcceptedInIdle : Obligations.StartIsAcceptedInIdle := by
  unfold Obligations.StartIsAcceptedInIdle
  intro s hs hseq hrst
  rw [step_of_idle_seq hs hseq hrst]
  refine ⟨fun hstart => ?_, fun hstart hclass => ?_⟩
  · simp [fsmAct, idleStep, hstart]
  · simp only [fsmAct, idleStep, hstart, (classOf_isSome_iff _).mpr hclass]
    rfl

/-- Settles O21: `idleStep` with a class that no code names; in IDLE the recorded state is 0. -/
theorem illegalDensityIsRefusedAtStart : Obligations.IllegalDensityIsRefusedAtStart := by
  unfold Obligations.IllegalDensityIsRefusedAtStart
  intro s hs hseq hrst hstart hclass
  have hnone : (classOf (pinsNow s).density).isSome = false := by
    rw [Bool.eq_false_iff, ne_eq, classOf_isSome_iff]
    omega
  have hzero : (0 : BitVec 4) = s.state := hs.symm
  rw [step_of_idle_seq hs hseq hrst, hzero]
  simp only [fsmAct, idleStep, hstart, hnone]
  exact congrArg _ (raiseErr_of_seq_idle .illegalDensity (s := { takePins s with dens := (pinsNow s).density }) hseq)

/-! ### Errors and withdrawals (60 R233, 70 R262) -/

/-- Settles O25: the lemmas on `raiseErr`, and the codes of 30 R89. -/
theorem errorEntryRecordsPosition : Obligations.ErrorEntryRecordsPosition := by
  unfold Obligations.ErrorEntryRecordsPosition
  intro e s
  simp [errCodeBits]

/-- An access in flight is recorded with some Boolean, and nothing else is recorded (log 5). -/
theorem withdraw_records (s : State) :
    (∀ r, inFlight s = some r → ∃ b, (withdraw s).withdrawn = s.withdrawn ++ [⟨r, b⟩]) ∧
      (inFlight s = none → (withdraw s).withdrawn = s.withdrawn) := by
  rw [withdraw_withdrawn]
  refine ⟨fun r hr => ⟨freePerformed s.tick, by simp [hr]⟩, fun hnone => by simp [hnone]⟩

/-- Settles O19: the step is the reset edge on the state whose pins are taken. -/
theorem resetWithdrawsAccess : Obligations.ResetWithdrawsAccess := by
  unfold Obligations.ResetWithdrawsAccess
  intro s hrst
  obtain ⟨hsome, hnone⟩ := withdraw_records (takePins s)
  exact ⟨_, step_of_rst hrst, rfl, rfl, rfl, hsome, hnone, rfl⟩

/-- Settles O24: below reset the unused codes come first, and the step is the error entry. -/
theorem unusedStateCodeTakesIllegalState : Obligations.UnusedStateCodeTakesIllegalState := by
  unfold Obligations.UnusedStateCodeTakesIllegalState
  intro s hlow hhigh hrst
  have hunused : stateOf s.state = none := (stateOf_eq_none s.state).mpr ⟨hlow, hhigh⟩
  have hstep : step s = .next (raiseErr .illegalState (takePins s)) := by
    simp [step, machineStep, pinStep, fsmStep, hrst, hunused]
  obtain ⟨hsome, hnone⟩ := withdraw_records (takePins s)
  exact ⟨_, hstep, rfl, rfl, rfl, rfl, rfl, rfl, rfl, by simp, by simp, by simp, by simp, by simp, by simp, by simp,
    hsome, hnone⟩

/-! ### What the pins do not reach -/

/-- A state other than IDLE does not look at the pins when nothing is in flight, and IDLE looks at `start` and the class
alone. -/
theorem fsmAct_congr {p p' : Pins} {q : FsmState} (s : State)
    (h : q = .idle → p'.start = p.start ∧ p'.density = p.density) : fsmAct p' q s = fsmAct p q s := by
  cases q with
  | idle =>
    obtain ⟨hstart, hdensity⟩ := h rfl
    simp [fsmAct, idleStep, hstart, hdensity]
  | entryRst | clkSel | phyCfg | ctrlCfg | trnHs | trnPulse | trnSample | trnEval | portEn | done | error => rfl

/-- A completion depends on the answer it waits for, and on the value read where it waits for an access. -/
theorem complete_congr {p p' : Pins} {s : State}
    (hbus : s.seq ≠ seqCode .dly → p'.mAck = p.mAck ∧ p'.mRdata = p.mRdata)
    (hdly : s.seq = seqCode .dly → p'.dDone = p.dDone) : complete p' s = complete p s := by
  cases hk : seqOf s.seq with
  | none => simp [complete, hk]
  | some k =>
    have hseq := seqOf_eq_some.mp hk
    cases k with
    | dly => simp [complete, hk, hdly hseq]
    | idle | wr | rd | rmwRd | rmwWr =>
      obtain ⟨hack, hdata⟩ := hbus (by simp [hseq])
      simp [complete, hk, hack, hdata]

/-- What a step can depend on among the pins: reset, the start request in IDLE, the answer to the command in flight. -/
theorem pinStep_congr {p p' : Pins} {s : State} (hrst : p'.rst = p.rst)
    (hstart : s.state = stateCode .idle → s.seq = seqCode .idle → p'.start = p.start ∧ p'.density = p.density)
    (hbus : s.seq ≠ seqCode .idle → s.seq ≠ seqCode .dly → p'.mAck = p.mAck ∧ p'.mRdata = p.mRdata)
    (hdly : s.seq = seqCode .dly → p'.dDone = p.dDone) : pinStep p' s = pinStep p s := by
  simp only [pinStep, hrst, fsmStep]
  cases hq : stateOf s.state with
  | none => rfl
  | some q =>
    by_cases hseq : s.seq = seqCode .idle
    · have hact := fsmAct_congr (q := q) s fun hidle => hstart (stateOf_eq_some.mp (hidle ▸ hq)) hseq
      simp [hseq, hact]
    · simp [hseq, complete_congr (hbus hseq) hdly]

/-- Settles O22: a start request reaches only IDLE with nothing in flight. -/
theorem startIgnoredOutsideIdle : Obligations.StartIgnoredOutsideIdle := by
  unfold Obligations.StartIgnoredOutsideIdle
  intro p b d s hbusy
  refine pinStep_congr rfl (fun hs hseq => ?_) (fun _ _ => ⟨rfl, rfl⟩) fun _ => rfl
  exact absurd hbusy (by simp [hs, hseq])

/-- Settles O23: an answer reaches only the command that waits for it. -/
theorem unaskedAnswersAreIgnored : Obligations.UnaskedAnswersAreIgnored := by
  unfold Obligations.UnaskedAnswersAreIgnored
  intro p a b v s
  refine ⟨fun hidle => ?_, fun hdly => ?_, fun hdly => ?_⟩
  · exact pinStep_congr rfl (fun _ _ => ⟨rfl, rfl⟩) (fun hne => absurd hidle hne) (by simp [hidle])
  · exact pinStep_congr rfl (fun _ _ => ⟨rfl, rfl⟩) (fun _ hne => absurd hdly hne) fun _ => rfl
  · exact pinStep_congr rfl (fun _ _ => ⟨rfl, rfl⟩) (fun _ _ => ⟨rfl, rfl⟩) fun hdly' => absurd hdly' hdly

/-- Settles O27: the step is `complete`, which writes neither `state` nor `cur` and without an answer writes nothing. -/
theorem commandInFlightHoldsTheBlock : Obligations.CommandInFlightHoldsTheBlock := by
  unfold Obligations.CommandInFlightHoldsTheBlock
  intro s t hstate hseq hrst hstep
  obtain ⟨q, hq⟩ := Option.isSome_iff_exists.mp hstate
  cases hk : seqOf s.seq with
  | none => simp [step, machineStep, pinStep, fsmStep, hrst, hq, hseq, complete, hk] at hstep
  | some k =>
    have hseqk := seqOf_eq_some.mp hk
    have hidle : k ≠ .idle := fun h => hseq (h ▸ hseqk)
    cases hans : answered (pinsNow s) k with
    | false =>
      cases (step_of_unanswered hstate hseqk hrst hidle hans).symm.trans hstep
      simp
    | true =>
      cases (step_of_answered hstate hseqk hrst hidle hans).symm.trans hstep
      refine ⟨by simp, by simp, fun hack hdone => ?_⟩
      cases k <;> simp [answered, hack, hdone] at hans

/-! ### The ports (20 R52, R57) -/

/-- Settles O42: the codes from 10 R28, and each sub-state's request by the lemma on `inFlight`. -/
theorem portsShowCommandInFlight : Obligations.PortsShowCommandInFlight := by
  unfold Obligations.PortsShowCommandInFlight
  refine ⟨by decide, by decide, fun s => ⟨fun h => ?idle, fun h => ?wr, fun h => ?rd, fun h => ?rmwWr, fun h => ?dly⟩⟩
  case idle => simp [portOutputs, inFlight_of_seq_idle h, h]
  case wr => simp [portOutputs, inFlight_of_wr h]
  case rd =>
    rcases h with hrd | hrmw
    · simp [portOutputs, inFlight_of_rd hrd]
    · simp [portOutputs, inFlight_of_rmwRd hrmw]
  case rmwWr => simp [portOutputs, inFlight_of_rmwWr h]
  case dly => simp [portOutputs, inFlight_of_dly h, h]

end Sys2Proof.Machine
end

section
/-! PROOFS. The moves of the block: everything a step with `rst` low can do, said once (42 R150), and who writes which
register (10 R23 to R26, 20 R60). -/

namespace Sys2Proof.Machine

open Sys2Proof.Config Sys2Proof.Safety

/-- What the block can do in a step with `rst` low, from the state whose pins `p` are taken, with what holds where it
does it. -/
inductive Move (p : Pins) (s : State) : State → Prop
  /-- 60 R235. -/
  | illegalState (hunused : stateOf s.state = none) : Move p s (raiseErr .illegalState s)
  /-- A command is in flight and not answered (R135). -/
  | waits (k : SeqState) (hstate : (stateOf s.state).isSome = true) (hk : s.seq = seqCode k) (hflight : k ≠ .idle)
      (hans : answered p k = false) : Move p s s
  /-- The command in flight is answered (R135). -/
  | completes (k : SeqState) (hstate : (stateOf s.state).isSome = true) (hk : s.seq = seqCode k) (hflight : k ≠ .idle)
      (hans : answered p k = true) : Move p s (completion p.mRdata k s)
  /-- IDLE without a start request. -/
  | idles (hs : s.state = stateCode .idle) (hseq : s.seq = seqCode .idle) (hstart : p.start = false) : Move p s s
  /-- R152. -/
  | starts (hs : s.state = stateCode .idle) (hseq : s.seq = seqCode .idle) (hstart : p.start = true)
      (hclass : (classOf p.density).isSome = true) : Move p s (acceptStart p.density s)
  /-- R153. -/
  | refusesClass (hs : s.state = stateCode .idle) (hseq : s.seq = seqCode .idle) (hstart : p.start = true)
      (hclass : (classOf p.density).isSome = false) :
      Move p s (raiseErr .illegalDensity { s with dens := p.density })
  /-- DONE and ERROR (43 R212, 60 R237). -/
  | rests (hs : s.state = stateCode .done ∨ s.state = stateCode .error) (hseq : s.seq = seqCode .idle) : Move p s s
  /-- 43 R206. -/
  | converges (d : Density) (hs : s.state = stateCode .trnEval) (hseq : s.seq = seqCode .idle)
      (hd : classOf s.dens = some d) (hpred : pred s.cfg.trn.diffMode s.S (nsamp s.cfg d) = true) :
      Move p s (converge s)
  /-- 43 R207. -/
  | retries (hs : s.state = stateCode .trnEval) (hseq : s.seq = seqCode .idle) (hleft : s.attempt.toNat < attemptMax) :
      Move p s (enterTrnPulse s)
  /-- 43 R208. -/
  | exhausts (hs : s.state = stateCode .trnEval) (hseq : s.seq = seqCode .idle)
      (hlast : s.attempt.toNat = attemptMax) : Move p s (enter .portEn s)
  /-- 41 R136: the fetched word is illegal. -/
  | refusesWord (c : Cmd) (hseg : inSegment s) (hseq : s.seq = seqCode .idle) (hfetch : fetch s = some c)
      (hlegal : legal c = false) : Move p s (raiseErr .illegalCmd (setCur c s))
  /-- R135: the fetched command is issued into its first sub-state. -/
  | issues (i : Instr) (k : SeqState) (hseg : inSegment s) (hseq : s.seq = seqCode .idle)
      (hfetch : fetch s = some (encode i)) (hwf : i.wf = true) (hk : (flightOf i).head? = some k) :
      Move p s (issued i k s)
  /-- END in a row of 41 R134's table without an effect of its own. -/
  | ends (q q' : FsmState) (hrow : plainNext q = some q') (hs : s.state = stateCode q) (hseq : s.seq = seqCode .idle)
      (hfetch : fetch s = some (encode .endSeg)) : Move p s (enter q' (setCur (encode .endSeg) s))
  /-- END of TRN_HS (43 R196). -/
  | endsTrnHs (hs : s.state = stateCode .trnHs) (hseq : s.seq = seqCode .idle)
      (hfetch : fetch s = some (encode .endSeg)) : Move p s (enterTrnPulse (setCur (encode .endSeg) s))
  /-- END of PORT_EN (43 R211). -/
  | endsPortEn (hs : s.state = stateCode .portEn) (hseq : s.seq = seqCode .idle)
      (hfetch : fetch s = some (encode .endSeg)) : Move p s (finish (setCur (encode .endSeg) s))

section Inversion

variable {p : Pins} {s t : State}

theorem complete_moves (hstate : (stateOf s.state).isSome = true) (hseq : s.seq ≠ seqCode .idle)
    (h : complete p s = .next t) : Move p s t := by
  cases hk : seqOf s.seq with
  | none => simp [complete, hk] at h
  | some k =>
    have hseqk := seqOf_eq_some.mp hk
    have hflight : k ≠ .idle := fun hidle => hseq (hidle ▸ hseqk)
    cases hans : answered p k with
    | false =>
      cases (complete_of_unanswered hseqk hans).symm.trans h
      exact .waits k hstate hseqk hflight hans
    | true =>
      cases (complete_of_answered hseqk hans).symm.trans h
      exact .completes k hstate hseqk hflight hans

theorem idleStep_moves (hs : s.state = stateCode .idle) (hseq : s.seq = seqCode .idle) : Move p s (idleStep p s) := by
  rcases idleStep_cases p s with ⟨hstart, ht⟩ | ⟨hstart, hclass, ht⟩ | ⟨hstart, hclass, ht⟩ <;> rw [ht]
  · exact .idles hs hseq hstart
  · exact .starts hs hseq hstart hclass
  · exact .refusesClass hs hseq hstart hclass

theorem trnEval_moves (hs : s.state = stateCode .trnEval) (hseq : s.seq = seqCode .idle) (h : trnEval s = .next t) :
    Move p s t := by
  rcases trnEval_cases h with ⟨-, ht⟩ | ⟨d, hd, ⟨hpred, ht⟩ | ⟨-, ⟨hleft, ht⟩ | ⟨hlast, ht⟩ | ⟨-, ht⟩⟩⟩ <;> cases ht
  · exact .converges d hs hseq hd hpred
  · exact .retries hs hseq hleft
  · exact .exhausts hs hseq hlast

/-- The rows of the END table by `plainNext`. -/
theorem endSegment_rows (h : endSegment s = .next t) :
    (∃ q q', plainNext q = some q' ∧ s.state = stateCode q ∧ t = enter q' s) ∨
      (s.state = stateCode .trnHs ∧ t = enterTrnPulse s) ∨ (s.state = stateCode .portEn ∧ t = finish s) := by
  rcases endSegment_cases h with ⟨q, q', hq, hrow, ht⟩ | ⟨hq, ht⟩ | ⟨hq, ht⟩ | ⟨-, ht⟩ <;> cases ht
  · refine .inl ⟨q, q', ?_, stateOf_eq_some.mp hq, rfl⟩
    rcases hrow with ⟨rfl, rfl⟩ | ⟨rfl, rfl⟩ | ⟨rfl, rfl⟩ | ⟨rfl, rfl⟩ | ⟨rfl, rfl⟩ | ⟨rfl, rfl⟩ <;> rfl
  · exact .inr (.inl ⟨stateOf_eq_some.mp hq, rfl⟩)
  · exact .inr (.inr ⟨stateOf_eq_some.mp hq, rfl⟩)

/-- The fetched word is legal, and then `cur` is set to it a second time, or it is refused (log 15). -/
theorem fetchExec_moves (hseg : inSegment s) (hseq : s.seq = seqCode .idle) (h : fetchExec s = .next t) :
    Move p s t := by
  rcases fetchExec_cases h with ⟨-, ht⟩ | ⟨c, i, hfetch, hdecode, ht⟩ | ⟨c, e, hfetch, hdecode, ht⟩
  · cases ht
  · obtain ⟨hwf, rfl⟩ := wf_and_encode_of_decode hdecode
    rcases exec_cases ht.symm with ⟨k, hk, -, hi⟩ | ⟨hnot, -⟩ | ⟨rfl, hend⟩
    · cases hi
      exact .issues i k hseg hseq hfetch hwf hk
    · simp [hwf] at hnot
    · rcases endSegment_rows hend.symm with ⟨q, q', hrow, hs, rfl⟩ | ⟨hs, rfl⟩ | ⟨hs, rfl⟩
      · exact .ends q q' hrow hs hseq hfetch
      · exact .endsTrnHs hs hseq hfetch
      · exact .endsPortEn hs hseq hfetch
  · cases ht
    refine .refusesWord c hseg hseq hfetch ?_
    rw [Bool.eq_false_iff, ne_eq, legal_iff_decodes]
    simp [hdecode]

end Inversion

/-- A step is the reset edge, or a move from the state whose pins are taken. -/
theorem step_moves {s t : State} (h : step s = .next t) :
    ((pinsNow s).rst = true ∧ t = resetEdge (takePins s)) ∨
      ((pinsNow s).rst = false ∧ Move (pinsNow s) (takePins s) t) := by
  rcases step_cases h with ⟨hrst, ht⟩ | ⟨hrst, hunused, ht⟩ | ⟨hrst, ⟨q, hq⟩, hseq, ht⟩ | ⟨hrst, hq, hseq, ht⟩ |
    ⟨hrst, hq, hseq, ht⟩ | ⟨hrst, hq, hseq, ht⟩ | ⟨hrst, hseg, hseq, ht⟩
  · cases ht
    exact .inl ⟨hrst, rfl⟩
  · cases ht
    exact .inr ⟨hrst, .illegalState hunused⟩
  · exact .inr ⟨hrst, complete_moves (s := takePins s) (by simp [hq]) hseq ht.symm⟩
  · cases ht
    exact .inr ⟨hrst, idleStep_moves (stateOf_eq_some.mp hq) hseq⟩
  · exact .inr ⟨hrst, trnEval_moves (stateOf_eq_some.mp hq) hseq ht.symm⟩
  · cases ht
    exact .inr ⟨hrst, .rests (hq.imp stateOf_eq_some.mp stateOf_eq_some.mp) hseq⟩
  · exact .inr ⟨hrst, fetchExec_moves (s := takePins s) hseg hseq ht.symm⟩

/-! ### Who writes what -/

/-- Settles O32: only the two answers to a start request write `dens`. -/
theorem densityLatchedOnlyAtStart : Obligations.DensityLatchedOnlyAtStart := by
  unfold Obligations.DensityLatchedOnlyAtStart
  intro s t hstep hrst hne
  rcases step_moves hstep with ⟨hreset, -⟩ | ⟨-, hmove⟩
  · simp [hrst] at hreset
  · cases hmove with
    | starts hs _ hstart => exact ⟨hs, hstart, rfl⟩
    | refusesClass hs _ hstart => exact ⟨hs, hstart, by simp⟩
    | _ => simp at hne

/-- Settles O33: only a completion writes a sample register, and only that of an RD. -/
theorem samplesWrittenOnlyByRd : Obligations.SamplesWrittenOnlyByRd := by
  unfold Obligations.SamplesWrittenOnlyByRd
  intro s t hstep hrst hne
  rcases step_moves hstep with ⟨hreset, -⟩ | ⟨-, hmove⟩
  · simp [hrst] at hreset
  · cases hmove with
    | completes k _ hk _ hans =>
      rw [completion_S] at hne ⊢
      split at hne
      next hrd =>
        subst hrd
        exact ⟨hk, hans, rfl⟩
      next => simp at hne
    | _ => simp at hne

/-- Settles O34: the moves that write a flag, each with its guard. -/
theorem flagsWrittenOnlyByTheirRules : Obligations.FlagsWrittenOnlyByTheirRules := by
  unfold Obligations.FlagsWrittenOnlyByTheirRules
  intro s t hstep
  rcases step_moves hstep with ⟨hreset, rfl⟩ | ⟨-, hmove⟩
  · simp [hreset]
  · cases hmove with
    | starts hs _ hstart =>
      have hidle : s.state = stateCode .idle := hs
      simp +contextual [hidle, hstart]
    | converges d hs _ hd hpred =>
      have heval : s.state = stateCode .trnEval ∧
          ∃ d, classOf s.dens = some d ∧ pred s.cfg.trn.diffMode s.S (nsamp s.cfg d) = true := ⟨hs, d, hd, hpred⟩
      simp +contextual [heval]
    | endsPortEn hs =>
      have hport : s.state = stateCode .portEn := hs
      simp +contextual [hport]
    | _ => simp +contextual

/-- Settles O36: only a completion writes the trace, by the one event of what is in flight. -/
theorem eventsAreCompletionsInOrder : Obligations.EventsAreCompletionsInOrder := by
  unfold Obligations.EventsAreCompletionsInOrder
  intro s t hstep
  rcases step_moves hstep with ⟨-, rfl⟩ | ⟨hrst, hmove⟩
  · exact .inl rfl
  · cases hmove with
    | completes k _ hk hflight hans =>
      right
      have hseq : s.seq = seqCode k := hk
      rw [completion_trace]
      refine ⟨hrst, ?_⟩
      cases k with
      | idle => exact absurd rfl hflight
      | wr => exact ⟨_, rfl, .inl ⟨_, _, inFlight_of_wr hseq, hans, rfl⟩⟩
      | rd => exact ⟨_, rfl, .inr (.inl ⟨_, inFlight_of_rd hseq, hans, rfl⟩)⟩
      | rmwRd => exact ⟨_, rfl, .inr (.inl ⟨_, inFlight_of_rmwRd hseq, hans, rfl⟩)⟩
      | rmwWr => exact ⟨_, rfl, .inl ⟨_, _, inFlight_of_rmwWr hseq, hans, rfl⟩⟩
      | dly => exact ⟨_, rfl, .inr (.inr ⟨hseq, hans, rfl⟩)⟩
    | _ => exact .inl (by simp)

end Sys2Proof.Machine
end

section
/-! PROOFS. Addresses (20 R51, R68), the merge of an RMW (41 R132), and the assembler (30 R91, R92). -/

namespace Sys2Proof.Machine

open Sys2Proof.Config Sys2Proof.Safety

/-! ### Addresses -/

theorem baseValid_baseOf {p : Platform} (h : platformValid p = true) (sp : Space) : baseValid (baseOf p sp) = true := by
  simp only [platformValid, Bool.and_eq_true] at h
  obtain ⟨⟨⟨hctrl, hphy⟩, hclk⟩, hsys⟩ := h
  cases sp with
  | ctrl => exact hctrl
  | phy => exact hphy
  | clk => exact hclk
  | sys => exact hsys

/-- A valid base leaves room for its whole window below 2^32. -/
theorem physAddr_toNat {cfg : Cfg} (h : platformValid cfg.platform = true) (sp : Space) (off : Off) :
    (physAddr cfg sp off).toNat = (baseOf cfg.platform sp).toNat + off.toNat := by
  have hbase := baseValid_baseOf h sp
  simp only [baseValid, Bool.and_eq_true, decide_eq_true_eq] at hbase
  have hoff := off.isLt
  rw [physAddr, BitVec.toNat_add, BitVec.toNat_setWidth, Nat.mod_eq_of_lt (by omega : off.toNat < 2 ^ 32),
    Nat.mod_eq_of_lt (by omega)]

theorem physAddr_aligned {cfg : Cfg} (h : platformValid cfg.platform = true) (sp : Space) {off : Off}
    (hoff : offAligned off = true) : (physAddr cfg sp off).toNat % 4 = 0 := by
  have hbase := baseValid_baseOf h sp
  simp only [baseValid, Bool.and_eq_true, beq_iff_eq] at hbase
  simp only [offAligned, beq_iff_eq] at hoff
  rw [physAddr_toNat h]
  omega

theorem inWindow_physAddr {cfg : Cfg} (h : platformValid cfg.platform = true) (sp : Space) (off : Off) :
    inWindow cfg.platform sp (physAddr cfg sp off) = true := by
  have hoff := off.isLt
  simp only [inWindow, physAddr_toNat h, Bool.and_eq_true, decide_eq_true_eq]
  omega

/-- Settles O37: the bases by name, and under valid bases the sum as a number. -/
theorem addressesDoNotWrap : Obligations.AddressesDoNotWrap := by
  unfold Obligations.AddressesDoNotWrap
  refine ⟨⟨rfl, rfl, rfl, rfl, spaceOfCode_spaceCode⟩, fun cfg off => ⟨rfl, rfl, rfl, rfl, fun h sp => ?_⟩⟩
  exact ⟨physAddr_toNat h sp off, physAddr_aligned h sp⟩

/-! ### The merge -/

theorem getLsbD_rmwMask (lsb : BitVec 5) (wm1 : BitVec 3) {i : Nat} (hi : i < 32) :
    (rmwMask lsb wm1).getLsbD i = decide (lsb.toNat ≤ i ∧ i ≤ lsb.toNat + wm1.toNat) := by
  rw [rmwMask, BitVec.getLsbD_shiftLeft, BitVec.getLsbD_ofNat, Nat.testBit_two_pow_sub_one,
    Bool.eq_iff_iff]
  simp only [Bool.and_eq_true, Bool.not_eq_true', decide_eq_true_eq, decide_eq_false_iff_not]
  omega

/-- Settles O38: a bit of the merge is chosen by the bit of the mask. -/
theorem mergeReplacesExactlyTheField : Obligations.MergeReplacesExactlyTheField := by
  unfold Obligations.MergeReplacesExactlyTheField
  intro lsb wm1 imm old i _ hi
  rw [rmwMerge, BitVec.getLsbD_or, BitVec.getLsbD_and, BitVec.getLsbD_and, BitVec.getLsbD_not, getLsbD_rmwMask lsb wm1 hi]
  by_cases hfield : lsb.toNat ≤ i ∧ i ≤ lsb.toNat + wm1.toNat
  · have hbit : (imm <<< lsb.toNat).getLsbD i = imm.getLsbD (i - lsb.toNat) := by
      rw [BitVec.getLsbD_shiftLeft]
      simp only [hi, Nat.not_lt.mpr hfield.1, decide_true, decide_false, Bool.not_false, Bool.true_and]
    simp [hfield, hbit]
  · simp [hfield, hi]

/-! ### The assembler -/

theorem map_decode_map_encode {is : List Instr} (h : ∀ i ∈ is, i.wf = true) :
    (is.map encode).map decode = is.map .ok := by
  rw [List.map_map]
  exact List.map_congr_left fun i hi => decode_encode (h i hi)

/-- A form that expands to well-formed commands assembles to words that decode to them. -/
theorem assemble_of_wf {cfg : Cfg} {a : Asm} {is : List Instr} (hexpand : asmExpand cfg a = some is)
    (hwf : ∀ i ∈ is, i.wf = true) : ∃ cs, assemble cfg a = .ok cs ∧ cs.map decode = is.map .ok := by
  refine ⟨is.map encode, ?_, map_decode_map_encode hwf⟩
  simp only [assemble, hexpand]
  rw [if_pos (List.all_eq_true.mpr hwf)]

theorem assemble_of_not_wf {cfg : Cfg} {a : Asm} {is : List Instr} {i : Instr} (hexpand : asmExpand cfg a = some is)
    (hi : i ∈ is) (hwf : i.wf = false) : ∃ e, assemble cfg a = .error e := by
  refine ⟨.illegal, ?_⟩
  have hall : ¬ is.all Instr.wf = true := fun h => by simpa [hwf] using List.all_eq_true.mp h i hi
  simp only [assemble, hexpand]
  rw [if_neg hall]

/-- The field `[hi:lo]` in its two numbers, where it has an encoding (R91). -/
theorem asmField_eq_some {hi lo : Nat} {lsb : BitVec 5} {wm1 : BitVec 3} :
    asmField hi lo = some (lsb, wm1) ↔ lsb.toNat = lo ∧ lsb.toNat + wm1.toNat = hi := by
  have hlsb := lsb.isLt
  have hwm1 := wm1.isLt
  unfold asmField
  split
  next hfits =>
    rw [Option.some.injEq, Prod.mk.injEq, ← BitVec.toNat_inj, ← BitVec.toNat_inj, BitVec.toNat_ofNat,
      BitVec.toNat_ofNat, Nat.mod_eq_of_lt (by omega : lo < 2 ^ 5), Nat.mod_eq_of_lt (by omega : hi - lo < 2 ^ 3)]
    omega
  next hfits =>
    simp only [reduceCtorEq, false_iff]
    omega

/-- The field form assembles when `hi` and `lo` are the ends of a field whose RMW is well-formed. -/
theorem assemble_rmw_of_field {cfg : Cfg} {sp : Space} {off : AsmOff} {hi lo : Nat} {v : Word} {lsb : BitVec 5}
    {wm1 : BitVec 3} (hfield : asmField hi lo = some (lsb, wm1))
    (hwf : (Instr.rmw sp (asmOff cfg off) lsb wm1 v).wf = true) :
    ∃ cs, assemble cfg (.rmw sp off hi lo v) = .ok cs ∧
      cs.map decode = [Instr.rmw sp (asmOff cfg off) lsb wm1 v].map .ok :=
  assemble_of_wf (by simp [asmExpand, asmFieldWrite, hfield, pseudoSel]) (by simpa using hwf)

/-- Settles O5: each form by the commands it expands to; the field form through the field's two numbers. -/
theorem assembledFieldWriteDecodes : Obligations.AssembledFieldWriteDecodes := by
  unfold Obligations.AssembledFieldWriteDecodes
  intro cfg sp off o gives rejected
  have hoff : asmOff cfg off = o := rfl
  refine ⟨fun _ => rfl, fun _ => rfl, fun hi lo v => ⟨?field, ?noField, rfl⟩, fun k v on offVal ns =>
    ⟨fun haligned => ?aligned, fun hmisaligned => ?misaligned, ?dly, ?endSeg⟩⟩
  case field =>
    rintro ⟨hle, hwidth, hhi, hvalue, haligned⟩
    have hlsb : (BitVec.ofNat 5 lo).toNat = lo := Nat.mod_eq_of_lt (by omega)
    have hwm1 : (BitVec.ofNat 3 (hi - lo)).toNat = hi - lo := Nat.mod_eq_of_lt (by omega)
    have hends : (BitVec.ofNat 5 lo).toNat + (BitVec.ofNat 3 (hi - lo)).toNat = hi := by omega
    refine ⟨_, _, hlsb, hends, assemble_rmw_of_field (asmField_eq_some.mpr ⟨hlsb, hends⟩) ?_⟩
    simp only [Instr.wf, fieldInWord, valueInField, Bool.and_eq_true, decide_eq_true_eq, hends]
    exact ⟨⟨haligned, by omega⟩, by rwa [hwm1]⟩
  case noField =>
    intro hfits
    cases hfield : asmField hi lo with
    | none => exact ⟨.noSuchField, by simp [assemble, asmExpand, asmFieldWrite, hfield]⟩
    | some p =>
      obtain ⟨lsb, wm1⟩ := p
      obtain ⟨rfl, rfl⟩ := asmField_eq_some.mp hfield
      refine assemble_of_not_wf (is := [.rmw sp o lsb wm1 v])
        (by simp [asmExpand, asmFieldWrite, hfield, pseudoSel, hoff]) (.head _) ?_
      rw [Bool.eq_false_iff]
      intro hwf
      simp only [Instr.wf, fieldInWord, valueInField, Bool.and_eq_true, decide_eq_true_eq] at hwf
      have hwm1 := wm1.isLt
      obtain ⟨⟨haligned, hin⟩, hvalue⟩ := hwf
      exact hfits ⟨by omega, by omega, by omega, by rwa [Nat.add_sub_cancel_left], haligned⟩
  case aligned =>
    have hwr (u : Word) : (Instr.wr sp o u).wf = true := haligned
    have hdly : (Instr.dly ns).wf = true := rfl
    refine ⟨assemble_of_wf rfl ?_, assemble_of_wf rfl ?_, assemble_of_wf rfl ?_, assemble_of_wf rfl ?_,
      assemble_of_wf rfl ?_⟩
    · simp [hwr]
    · simpa [Instr.wf] using haligned
    · simp [hwr]
    · simp [hwr, hdly]
    · simp [hwr, hdly]
  case misaligned =>
    have hwr (u : Word) : (Instr.wr sp o u).wf = false := hmisaligned
    exact ⟨assemble_of_not_wf rfl (.head _) (hwr v), assemble_of_not_wf (i := .rd k sp o) rfl (.head _) hmisaligned,
      assemble_of_not_wf rfl (.head _) (hwr 0), assemble_of_not_wf rfl (.head _) (hwr on),
      assemble_of_not_wf rfl (.head _) (hwr on)⟩
  case dly => exact assemble_of_wf rfl (by simp [Instr.wf])
  case endSeg => exact assemble_of_wf rfl (by simp [Instr.wf])

end Sys2Proof.Machine
end

section
/-! PROOFS. The segments (42 R151 to R174, 43 R190 to R210): where their writes go, that a valid CFG makes their commands
well-formed, and their shape. -/

namespace Sys2Proof.Machine

open Sys2Proof.Config Sys2Proof.Safety

/-! ### What a valid CFG gives the segments (92 section 2) -/

theorem cfgValid_iff (cfg : Cfg) : cfgValid cfg = true ↔
    platformValid cfg.platform = true ∧ ctrlOffValid cfg = true ∧ packValid cfg = true ∧ packedValuesFit cfg = true ∧
      clkRstValid cfg.clkRst = true ∧ phyValid cfg.phy = true ∧ progValid cfg = true ∧ romOpenValid cfg.rom = true ∧
      trainingValid cfg.trn = true := by
  simp [cfgValid, and_assoc]

/-- R69's list is complete. -/
theorem mem_allRegs (r : RegName) : r ∈ allRegs := by
  cases r with
  | pcfgr n | pcfgw n | pctrl n | pcfgqos0 n | pcfgqos1 n | pcfgwqos0 n | pcfgwqos1 n => revert n; decide
  | _ => decide

theorem ctrlOff_aligned {cfg : Cfg} (h : cfgValid cfg = true) (r : RegName) : offAligned (ctrlOff cfg r) = true := by
  obtain ⟨-, hoff, -⟩ := (cfgValid_iff cfg).mp h
  exact List.all_eq_true.mp hoff r (mem_allRegs r)

theorem clkRstValid_of_cfgValid {cfg : Cfg} (h : cfgValid cfg = true) : clkRstValid cfg.clkRst = true := by
  obtain ⟨-, -, -, -, hclk, -⟩ := (cfgValid_iff cfg).mp h
  exact hclk

theorem rstOff_aligned {cfg : Cfg} (h : cfgValid cfg = true) : offAligned cfg.clkRst.rstOff = true := by
  have hclk := clkRstValid_of_cfgValid h
  simp only [clkRstValid, Bool.and_eq_true] at hclk
  exact hclk.2

/-- 92 section 2.3, register by register and lane group by lane group. -/
theorem phyValid_of_cfgValid {cfg : Cfg} (h : cfgValid cfg = true) :
    (∀ w ∈ [cfg.phy.phyType, cfg.phy.phyRl, cfg.phy.phyWl, cfg.phy.pllFbdiv, cfg.phy.pllOut, cfg.phy.pllDiv,
      cfg.phy.cmdDs, cfg.phy.clkDs, cfg.phy.pullup], offAligned w.off = true) ∧
    ∀ g ∈ [cfg.phy.laneA.low, cfg.phy.laneA.high, cfg.phy.laneB.low, cfg.phy.laneB.high], nibbleValid g = true := by
  obtain ⟨-, -, -, -, -, hphy, -⟩ := (cfgValid_iff cfg).mp h
  simpa [phyValid, and_assoc] using hphy

/-- 92 section 2.4: the offsets that CFG lists for CTRL_CFG, and the bound on its open lists. -/
theorem progValid_of_cfgValid {cfg : Cfg} (h : cfgValid cfg = true) :
    (∀ o ∈ [cfg.prog.rfshAux0, cfg.prog.rfshAux1, cfg.prog.rfshAux2], offAligned o = true) ∧
      offAligned (refOff cfg cfg.prog.dfiPhyupdReg) = true ∧ (∀ o ∈ cfg.prog.schedAux, offAligned o = true) ∧
      (∀ r ∈ cfg.prog.varpri, offAligned (refOff cfg r) = true) ∧
      cfg.prog.schedAux.length + cfg.prog.varpri.length ≤ 193 := by
  obtain ⟨-, -, -, -, -, -, hprog, -⟩ := (cfgValid_iff cfg).mp h
  simp only [progValid, Bool.and_eq_true, decide_eq_true_eq, List.all_eq_true] at hprog
  obtain ⟨⟨⟨⟨⟨⟨⟨h0, h1⟩, h2⟩, hphyupd⟩, hsched⟩, hvarpri⟩, -⟩, hlength⟩ := hprog
  exact ⟨by simp [h0, h1, h2], hphyupd, hsched, hvarpri, hlength⟩

/-- 92 section 2.6: the offsets of the training part that the segments use. -/
theorem trainingValid_of_cfgValid {cfg : Cfg} (h : cfgValid cfg = true) :
    (offAligned cfg.trn.swctlOff = true ∧ offAligned cfg.trn.hsOdt.off = true ∧ offAligned cfg.trn.dfiOff = true ∧
      offAligned cfg.trn.trnOff = true) ∧
    (∀ off ∈ [cfg.trn.resOff0, cfg.trn.resOff1, cfg.trn.resOff2, cfg.trn.resOff3], offAligned off = true) ∧
    ∀ n : Port, offAligned (forPort cfg.trn.portEn n).off = true := by
  obtain ⟨-, -, -, -, -, -, -, -, htrn⟩ := (cfgValid_iff cfg).mp h
  simp only [trainingValid, gateValid, Bool.and_eq_true] at htrn
  simp only [List.forall_mem_cons, Fin.forall_fin_succ, forPort]
  simp_all

/-! ### Segments of writes to one space -/

/-- A write to a space, at an aligned offset when CFG is valid. -/
def WritesTo (cfg : Cfg) (sp : Space) (i : Instr) : Prop :=
  ∃ off v, i = .wr sp off v ∧ (cfgValid cfg = true → offAligned off = true)

section WritesTo

variable {cfg : Cfg} {sp : Space} {i : Instr}

theorem WritesTo.wf (h : WritesTo cfg sp i) (hcfg : cfgValid cfg = true) : i.wf = true := by
  obtain ⟨off, v, rfl, haligned⟩ := h
  exact haligned hcfg

theorem WritesTo.ne_endSeg (h : WritesTo cfg sp i) : i ≠ .endSeg := by
  obtain ⟨off, v, rfl, -⟩ := h
  simp

theorem writesTo_wr {off : Off} {v : Word} (h : cfgValid cfg = true → offAligned off = true) :
    WritesTo cfg sp (.wr sp off v) :=
  ⟨off, v, rfl, h⟩

end WritesTo

@[simp] theorem writesTo_ctrlWr (cfg : Cfg) (r : RegName) (v : Word) : WritesTo cfg .ctrl (ctrlWr cfg r v) :=
  writesTo_wr fun h => ctrlOff_aligned h r

@[simp] theorem writesTo_ctrlWrPacked (cfg : Cfg) (d : Density) (r : RegName) :
    WritesTo cfg .ctrl (ctrlWrPacked cfg d r) :=
  writesTo_ctrlWr cfg r _

@[simp] theorem writesTo_ctrlWrPackedOr (cfg : Cfg) (d : Density) (r : RegName) (extra : Word) :
    WritesTo cfg .ctrl (ctrlWrPackedOr cfg d r extra) :=
  writesTo_ctrlWr cfg r _

/-- Every write of CTRL_CFG goes to CTRL (R158): registers of 20 R69, and the offsets CFG lists. -/
theorem writesTo_of_mem_ctrlCfgWrites (cfg : Cfg) (d : Density) :
    ∀ i ∈ ctrlCfgWrites cfg d, WritesTo cfg .ctrl i := by
  have haux : ∀ o ∈ [cfg.prog.rfshAux0, cfg.prog.rfshAux1, cfg.prog.rfshAux2],
      ∀ v, WritesTo cfg .ctrl (.wr .ctrl o v) := by
    refine fun o ho v => writesTo_wr fun h => ?_
    obtain ⟨halign, -⟩ := progValid_of_cfgValid h
    exact halign o ho
  have hphyupd (v : Word) : WritesTo cfg .ctrl (.wr .ctrl (refOff cfg cfg.prog.dfiPhyupdReg) v) := by
    refine writesTo_wr fun h => ?_
    obtain ⟨-, halign, -⟩ := progValid_of_cfgValid h
    exact halign
  have hsched : ∀ i ∈ cfg.prog.schedAux.map fun o => Instr.wr .ctrl o 0, WritesTo cfg .ctrl i := by
    refine List.forall_mem_map.mpr fun o ho => writesTo_wr fun h => ?_
    obtain ⟨-, -, halign, -⟩ := progValid_of_cfgValid h
    exact halign o ho
  have hvarpri : ∀ i ∈ cfg.prog.varpri.map fun r => Instr.wr .ctrl (refOff cfg r) 0, WritesTo cfg .ctrl i := by
    refine List.forall_mem_map.mpr fun r hr => writesTo_wr fun h => ?_
    obtain ⟨-, -, -, halign, -⟩ := progValid_of_cfgValid h
    exact halign r hr
  simp only [ctrlCfgWrites, List.forall_mem_append]
  refine ⟨⟨⟨⟨⟨⟨?_, ?_⟩, ?_⟩, ?_⟩, ?_⟩, ?_⟩, ?_⟩
  · simp [ctrlSteps1to5, haux]
  · simp [ctrlStep6]
  · simp [ctrlStep7, hphyupd]
  · simp [ctrlStep8]
  · rw [ctrlStep9, List.forall_mem_append]
    exact ⟨by simp, hsched⟩
  · simp [ctrlStep10Ports, allPorts]
  · rw [ctrlStep10Qos, List.forall_mem_append]
    exact ⟨by simp [allPorts], hvarpri⟩

theorem laneRegValid_aligned {w : RegWrite} (h : laneRegValid w = true) : offAligned w.off = true := by
  simp only [laneRegValid, Bool.and_eq_true] at h
  exact h.2

/-- The four writes of a nibble group that a valid CFG keeps valid. -/
theorem writesTo_of_mem_nibbleWrites {cfg : Cfg} {g : NibbleGroup} (h : cfgValid cfg = true → nibbleValid g = true) :
    ∀ i ∈ nibbleWrites g, WritesTo cfg .phy i := by
  have hregs : ∀ w ∈ [g.pdDs, g.pdOdt, g.puDs, g.puOdt], WritesTo cfg .phy (phyWr w) := by
    refine fun w hw => writesTo_wr fun hcfg => laneRegValid_aligned ?_
    have hgroup : ∀ w ∈ [g.pdDs, g.pdOdt, g.puDs, g.puOdt], laneRegValid w = true := by
      simpa [nibbleValid, and_assoc] using h hcfg
    exact hgroup w hw
  simpa [nibbleWrites] using hregs

/-- Every write of PHY_CFG goes to PHY (R156). -/
theorem writesTo_of_mem_phyCfgWrites (cfg : Cfg) (d : Density) :
    ∀ i ∈ phyStaticWrites cfg.phy ++ phyWidthWrite cfg d, WritesTo cfg .phy i := by
  have hstatic : ∀ w ∈ [cfg.phy.phyType, cfg.phy.phyRl, cfg.phy.phyWl, cfg.phy.pllFbdiv, cfg.phy.pllOut,
      cfg.phy.pllDiv, cfg.phy.cmdDs, cfg.phy.clkDs, cfg.phy.pullup], WritesTo cfg .phy (phyWr w) :=
    fun w hw => writesTo_wr fun hcfg => (phyValid_of_cfgValid hcfg).1 w hw
  have hlane : ∀ g ∈ [cfg.phy.laneA.low, cfg.phy.laneA.high, cfg.phy.laneB.low, cfg.phy.laneB.high],
      ∀ i ∈ nibbleWrites g, WritesTo cfg .phy i :=
    fun g hg => writesTo_of_mem_nibbleWrites fun hcfg => (phyValid_of_cfgValid hcfg).2 g hg
  simp only [List.forall_mem_cons] at hstatic hlane
  obtain ⟨hAlow, hAhigh, hBlow, hBhigh, -⟩ := hlane
  simp only [phyStaticWrites, laneWrites, List.forall_mem_append]
  refine ⟨⟨⟨?_, hAlow, hAhigh⟩, hBlow, hBhigh⟩, ?_⟩
  · simpa using hstatic
  · intro i hi
    simp only [phyWidthWrite] at hi
    split at hi
    · rw [List.mem_singleton.mp hi]
      exact writesTo_wr fun _ => by decide
    · simp at hi

/-! ### The spaces a segment reaches (70 R270) -/

/-- CTRL_CFG is its writes and END. -/
theorem mem_ctrlCfg {cfg : Cfg} {d : Density} {i : Instr} (h : i ∈ segInstrs .ctrlCfg d cfg) :
    i = .endSeg ∨ WritesTo cfg .ctrl i := by
  rcases List.mem_append.mp h with hwrite | hend
  · exact .inr (writesTo_of_mem_ctrlCfgWrites cfg d i hwrite)
  · exact .inl (List.mem_singleton.mp hend)

theorem mem_phyCfg {cfg : Cfg} {d : Density} {i : Instr} (h : i ∈ segInstrs .phyCfg d cfg) :
    i = .endSeg ∨ WritesTo cfg .phy i := by
  rcases List.mem_append.mp h with hwrite | hend
  · exact .inr (writesTo_of_mem_phyCfgWrites cfg d i hwrite)
  · exact .inl (List.mem_singleton.mp hend)

theorem mem_entryRst {cfg : Cfg} {d : Density} {i : Instr} (h : i ∈ segInstrs .entryRst d cfg) :
    i = .endSeg ∨ (∃ ns, i = .dly ns) ∨ WritesTo cfg .sys i := by
  simp only [segInstrs, entryRstSeg, List.mem_cons, List.not_mem_nil, or_false] at h
  rcases h with rfl | rfl | rfl | rfl
  · exact .inr (.inr (writesTo_wr rstOff_aligned))
  · exact .inr (.inl ⟨_, rfl⟩)
  · exact .inr (.inr (writesTo_wr rstOff_aligned))
  · exact .inl rfl

theorem mem_clkSel {cfg : Cfg} {d : Density} {i : Instr} (h : i ∈ segInstrs .clkSel d cfg) :
    i = .endSeg ∨ i = .rmw .clk cfg.clkRst.clkSelOff cfg.clkRst.clkSelLsb 1 (clkParent cfg d) := by
  simpa [segInstrs, clkSelSeg, or_comm] using h

/-- A read of TRN_SAMPLE (43 R205). -/
theorem mem_trnSample {cfg : Cfg} {d : Density} {i : Instr} (h : i ∈ segInstrs .trnSample d cfg) :
    i = .endSeg ∨ ∃ k off, i = .rd k .phy off ∧
      off ∈ [cfg.trn.resOff0, cfg.trn.resOff1, cfg.trn.resOff2, cfg.trn.resOff3] := by
  rcases List.mem_append.mp h with hread | hend
  · have hread := List.mem_of_mem_take hread
    simp only [sampleReads, List.mem_cons, List.not_mem_nil, or_false] at hread
    rcases hread with rfl | rfl | rfl | rfl <;> exact .inr ⟨_, _, rfl, by simp⟩
  · exact .inl (List.mem_singleton.mp hend)

/-- Settles O50: the members of each segment, their alignment left aside. -/
theorem segmentsReachTheirSpaces : Obligations.SegmentsReachTheirSpaces := by
  unfold Obligations.SegmentsReachTheirSpaces
  have hforget {cfg : Cfg} {sp : Space} {i : Instr} : WritesTo cfg sp i → ∃ off v, i = .wr sp off v :=
    fun ⟨off, v, hi, _⟩ => ⟨off, v, hi⟩
  intro cfg d i
  exact ⟨fun h => (mem_entryRst h).imp_right (·.imp_right hforget),
    fun h => (mem_clkSel h).imp_right fun hi => ⟨_, _, _, hi⟩,
    fun h => (mem_phyCfg h).imp_right hforget, fun h => (mem_ctrlCfg h).imp_right hforget⟩

/-! ### Under a valid CFG every command of a segment is well-formed (92 section 2.7) -/

theorem clkSel_wf {cfg : Cfg} (h : cfgValid cfg = true) (d : Density) :
    (Instr.rmw .clk cfg.clkRst.clkSelOff cfg.clkRst.clkSelLsb 1 (clkParent cfg d)).wf = true := by
  have hclk := clkRstValid_of_cfgValid h
  simp only [clkRstValid, Bool.and_eq_true, decide_eq_true_eq] at hclk
  obtain ⟨⟨⟨⟨⟨hoff, hlsb⟩, h200⟩, h156⟩, -⟩, -⟩ := hclk
  have hparent : (clkParent cfg d).toNat ≤ 3 := by
    unfold clkParent
    split
    · exact h200
    · exact h156
  simp only [Instr.wf, fieldInWord, valueInField, Bool.and_eq_true, decide_eq_true_eq, BitVec.reduceToNat]
  exact ⟨⟨hoff, by omega⟩, by omega⟩

theorem segInstrs_wf {cfg : Cfg} (h : cfgValid cfg = true) {q : FsmState} {d : Density} {i : Instr}
    (hi : i ∈ segInstrs q d cfg) : i.wf = true := by
  obtain ⟨⟨hswctl, hodt, hdfi, htrn⟩, hres, hgate⟩ := trainingValid_of_cfgValid h
  obtain ⟨hphy, -⟩ := phyValid_of_cfgValid h
  have hpll : offAligned cfg.phy.pllOut.off = true := hphy _ (by simp)
  have hrst := rstOff_aligned h
  cases q with
  | entryRst =>
    rcases mem_entryRst hi with rfl | ⟨ns, rfl⟩ | hwrite
    · rfl
    · rfl
    · exact hwrite.wf h
  | clkSel =>
    rcases mem_clkSel hi with rfl | rfl
    · rfl
    · exact clkSel_wf h d
  | phyCfg =>
    rcases mem_phyCfg hi with rfl | hwrite
    · rfl
    · exact hwrite.wf h
  | ctrlCfg =>
    rcases mem_ctrlCfg hi with rfl | hwrite
    · rfl
    · exact hwrite.wf h
  | trnHs =>
    simp only [segInstrs, trnHsSeg] at hi
    revert i
    simp [Instr.wf, hrst, hswctl, hpll, hodt, hdfi]
  | trnPulse =>
    simp only [segInstrs, trnPulseSeg] at hi
    revert i
    simp [Instr.wf, htrn]
  | trnSample =>
    rcases mem_trnSample hi with rfl | ⟨k, off, rfl, hoff⟩
    · rfl
    · exact hres off hoff
  | portEn =>
    simp only [segInstrs, portEnSeg, gateWr] at hi
    revert i
    simp [Instr.wf, hgate]
  | idle | trnEval | done | error => simp [segInstrs] at hi

/-- Settles O46: the word of a well-formed command is legal. -/
theorem validCfgSegmentsAreLegal : Obligations.ValidCfgSegmentsAreLegal := by
  unfold Obligations.ValidCfgSegmentsAreLegal
  intro cfg d q c hcfg hc
  obtain ⟨i, hi, rfl⟩ := List.mem_map.mp hc
  exact legal_encode (segInstrs_wf hcfg hi)

/-! ### Length and END (42 R177, R156) -/

theorem length_ctrlCfgWrites (cfg : Cfg) (d : Density) :
    (ctrlCfgWrites cfg d).length = 61 + cfg.prog.schedAux.length + cfg.prog.varpri.length := by
  simp [ctrlCfgWrites, ctrlSteps1to5, ctrlStep6, ctrlStep7, ctrlStep8, ctrlStep9, ctrlStep10Ports, ctrlStep10Qos,
    allPorts]
  omega

theorem length_phyCfg (cfg : Cfg) (d : Density) :
    (segInstrs .phyCfg d cfg).length = if d = .d32M then 27 else 26 := by
  cases d <;> rfl

theorem length_trnSample (cfg : Cfg) (d : Density) :
    (segInstrs .trnSample d cfg).length = if d = .d32M then 3 else 5 := by
  cases d <;> rfl

/-- Settles O47: encoding keeps the length. -/
theorem segmentLengths : Obligations.SegmentLengths := by
  unfold Obligations.SegmentLengths
  intro cfg d
  simp only [seg, List.length_map]
  refine ⟨rfl, rfl, length_phyCfg cfg d, ?_, rfl, rfl, length_trnSample cfg d, rfl⟩
  simp only [segInstrs, ctrlCfgSeg, List.length_append, length_ctrlCfgWrites, List.length_singleton]
  omega

/-- A segment is a body without END, and END. -/
theorem segInstrs_body (cfg : Cfg) (d : Density) {q : FsmState} (hq : commandBearing q = true) :
    ∃ body, segInstrs q d cfg = body ++ [.endSeg] ∧ .endSeg ∉ body := by
  cases q with
  | entryRst => exact ⟨(entryRstSeg cfg).dropLast, rfl, by simp [entryRstSeg]⟩
  | clkSel => exact ⟨(clkSelSeg cfg d).dropLast, rfl, by simp [clkSelSeg]⟩
  | phyCfg => exact ⟨_, rfl, fun hend => (writesTo_of_mem_phyCfgWrites cfg d _ hend).ne_endSeg rfl⟩
  | ctrlCfg => exact ⟨_, rfl, fun hend => (writesTo_of_mem_ctrlCfgWrites cfg d _ hend).ne_endSeg rfl⟩
  | trnHs => exact ⟨(trnHsSeg cfg).dropLast, rfl, by simp [trnHsSeg]⟩
  | trnPulse => exact ⟨(trnPulseSeg cfg).dropLast, rfl, by simp [trnPulseSeg]⟩
  | trnSample => exact ⟨_, rfl, fun hend => by simpa [sampleReads] using List.mem_of_mem_take hend⟩
  | portEn => exact ⟨(portEnSeg cfg).dropLast, rfl, by simp [portEnSeg, gateWr]⟩
  | idle | trnEval | done | error => cases hq

/-- `step` has 8 bits, and a valid CFG keeps the longest segment within them (10 R22). -/
theorem segInstrs_length_le {cfg : Cfg} (h : cfgValid cfg = true) (d : Density) (q : FsmState) :
    (segInstrs q d cfg).length ≤ 255 := by
  obtain ⟨-, -, -, -, hlists⟩ := progValid_of_cfgValid h
  cases q with
  | ctrlCfg =>
    simp only [segInstrs, ctrlCfgSeg, List.length_append, length_ctrlCfgWrites, List.length_singleton]
    omega
  | phyCfg =>
    rw [length_phyCfg]
    split <;> omega
  | trnSample =>
    rw [length_trnSample]
    split <;> omega
  | entryRst | clkSel | trnHs | trnPulse | portEn | idle | trnEval | done | error =>
    simp [segInstrs, entryRstSeg, clkSelSeg, trnHsSeg, trnPulseSeg, portEnSeg]

/-- Settles O45: the body by segment, and the length under a valid CFG. -/
theorem segmentsEndWithOneEnd : Obligations.SegmentsEndWithOneEnd := by
  unfold Obligations.SegmentsEndWithOneEnd
  exact fun cfg d q hq => ⟨segInstrs_body cfg d hq, fun h => segInstrs_length_le h d q⟩

end Sys2Proof.Machine
end

section
/-! PROOFS. The segments phrase by phrase (42 R154 to R174, 43 R190 to R210), and the spec's default tables (20 R69, R70,
R74; 92 section 2). -/

namespace Sys2Proof.Machine

open Sys2Proof.Config Sys2Proof.Safety

/-! ### Phrase by phrase -/

/-- CTRL_CFG cut at its steps (R158): the pieces of fixed length by computing, the rest as one piece. -/
theorem ctrlCfg_pieces (cfg : Cfg) (d : Density) :
    let ctrl := segInstrs .ctrlCfg d cfg
    ctrl.take 12 = ctrlSteps1to5 cfg d ∧ (ctrl.drop 12).take 17 = ctrlStep6 cfg d ∧
      (ctrl.drop 29).take 8 = ctrlStep7 cfg d ∧ (ctrl.drop 37).take 6 = ctrlStep8 cfg d ∧
      ctrl.drop 43 = ctrlStep9 cfg d ++ (ctrlStep10Ports cfg d ++ (ctrlStep10Qos cfg ++ [.endSeg])) := by
  have hsteps : segInstrs .ctrlCfg d cfg =
      ctrlSteps1to5 cfg d ++ (ctrlStep6 cfg d ++ (ctrlStep7 cfg d ++ (ctrlStep8 cfg d ++ (ctrlStep9 cfg d ++
        (ctrlStep10Ports cfg d ++ (ctrlStep10Qos cfg ++ [.endSeg])))))) := by
    simp [segInstrs, ctrlCfgSeg, ctrlCfgWrites]
  rw [hsteps]
  exact ⟨rfl, rfl, rfl, rfl, rfl⟩

theorem length_ctrlStep9 (cfg : Cfg) (d : Density) : (ctrlStep9 cfg d).length = 3 + cfg.prog.schedAux.length := by
  simp [ctrlStep9]
  omega

theorem clkParent_eq (cfg : Cfg) (d : Density) :
    clkParent cfg d = if d = .d32M then cfg.clkRst.clkParent200 else cfg.clkRst.clkParent156 := by
  simp [clkParent, rom_clk200]


theorem mstrWord_eq (cfg : Cfg) (d : Density) : mstrWord cfg d =
    cfg.prog.mstrLpddr2 ||| (if d = .d32M then cfg.prog.mstrBus16 else 0) ||| cfg.prog.mstrBurstRdwr
      ||| cfg.prog.mstrActiveRanks := by
  simp [mstrWord, rom_bus16]

/-! A packed word without the 0 that ends the OR. -/

theorem orFields_singleton (cfg : Cfg) (f : FieldName) (v : Word) : orFields cfg [(f, v)] = fld cfg f v :=
  BitVec.or_zero

theorem orFields_cons_cons (cfg : Cfg) (f : FieldName) (v : Word) (p : FieldName × Word)
    (fs : List (FieldName × Word)) : orFields cfg ((f, v) :: p :: fs) = fld cfg f v ||| orFields cfg (p :: fs) := rfl

/-- Settles O49: the short segments from their definitions, CTRL_CFG cut at its steps, the packed words by opening the OR of
their fields. -/
theorem segmentsFollowTheirPhrases : Obligations.SegmentsFollowTheirPhrases := by
  unfold Obligations.SegmentsFollowTheirPhrases
  intro cfg d P C Y G T B k ctrl f w y lane
  have hbranch : forBranch G.branch d = B := forBranch_eq_ite _ d
  obtain ⟨h1to5, h6, h7, h8, hrest⟩ := ctrlCfg_pieces cfg d
  have hpacked (r : RegName) : packedWord cfg d r = orFields cfg (packedFields cfg d r) := rfl
  refine ⟨rfl, ?clkSel, ?phyCfg, ?steps1to5, ?step6, ?step7, ?step8, ?step9, ?step10, rfl, rfl, ?sample, rfl,
    ?sel, rfl, rfl⟩
  case clkSel | sel =>
    rw [← clkParent_eq]
    rfl
  case phyCfg => cases d <;> rfl
  case sample => cases d <;> rfl
  case steps1to5 =>
    rw [h1to5, ctrlSteps1to5, mstrWord_eq]
    rfl
  case step6 =>
    rw [h6]
    simp only [ctrlStep6, ctrlWrPacked, ctrlWrPackedOr, hpacked, packedFields, orFields_cons_cons,
      orFields_singleton, BitVec.or_assoc]
    rw [hbranch]
    rfl
  case step7 =>
    rw [h7]
    simp only [ctrlStep7, ctrlWrPackedOr, hpacked, packedFields, orFields_cons_cons,
      orFields_singleton, BitVec.or_assoc]
    rfl
  case step8 =>
    rw [h8]
    simp only [ctrlStep8, ctrlWrPacked, ctrlWrPackedOr, hpacked, packedFields, orFields_cons_cons,
      orFields_singleton, BitVec.or_assoc]
    rfl
  case step9 =>
    rw [hrest, List.take_left' (length_ctrlStep9 cfg d)]
    simp only [ctrlStep9, ctrlWrPackedOr, hpacked, packedFields, orFields_singleton]
    rw [BitVec.or_comm _ cfg.prog.schedBase]
    rfl
  case step10 =>
    have hdrop : ctrl.drop (46 + k) = (ctrl.drop 43).drop (3 + k) := by rw [List.drop_drop]; congr 1; omega
    rw [hdrop, hrest, List.drop_left' (length_ctrlStep9 cfg d)]
    simp only [ctrlStep10Ports, ctrlStep10Qos, List.append_assoc]
    simp only [allPorts, List.map_cons, List.map_nil, ctrlWrPacked, hpacked, packedFields,
      orFields_cons_cons, orFields_singleton]
    rfl

/-! ### The default tables -/

section Defaults

variable {cfg : Cfg}

theorem packOf_of_no_entry (h : cfg.pack = []) (f : FieldName) : packOf cfg f = packDefault f := by
  simp [packOf, h]

theorem fld_of_no_entry (h : cfg.pack = []) (f : FieldName) (v : Word) :
    fld cfg f v = v <<< (packDefault f).lsb := by
  rw [fld, packOf_of_no_entry h]

theorem ctrlOff_of_no_entry (h : cfg.ctrlOff = []) : ctrlOff cfg = ctrlOffDefault := by
  funext r
  simp [ctrlOff, h]

/-- The OR of fields at their default places. -/
def orDefaultFields : List (FieldName × Word) → Word
  | [] => 0
  | (f, v) :: fs => v <<< (packDefault f).lsb ||| orDefaultFields fs

theorem packedWord_of_no_entry (h : cfg.pack = []) (d : Density) (r : RegName) :
    packedWord cfg d r = orDefaultFields (packedFields cfg d r) := by
  rw [packedWord]
  induction packedFields cfg d r with
  | nil => rfl
  | cons fv fs ih => rw [orFields, orDefaultFields, ih, fld_of_no_entry h]

/-- The offset of a port's register is the first port's plus the stride, without a wrap. -/
theorem portOffset_toNat (base : Off) (n : Port) (h : base.toNat ≤ 0x4a0) :
    (portOffset base n).toNat = base.toNat + 0xb0 * n.val := by
  have hn := n.isLt
  have hstride : (0xb0 : Off).toNat = 0xb0 := rfl
  simp only [portOffset, BitVec.toNat_add, BitVec.toNat_mul, BitVec.toNat_ofNat, hstride]
  omega

end Defaults

/-- Settles O48: with nothing replaced the look-ups answer the default tables, which compute. -/
theorem defaultPackedWords : Obligations.DefaultPackedWords := by
  unfold Obligations.DefaultPackedWords
  refine ⟨fun cfg hpack => ?words, fun cfg hoff => ?offsets, fun cfg hpack => ?places, fun cfg => ?defaults⟩
  case words =>
    simp only [packedWord_of_no_entry hpack]
    refine ⟨?_, ?_, ?_, fun d hd => ?common, ?_, ?_, ?_, ?_, ?_, fun d => ⟨rfl, rfl⟩⟩
    case common => simp [rom_of_ne_32M cfg hd, orDefaultFields, packedFields, packDefault, romCommon]
    all_goals simp [orDefaultFields, packedFields, packDefault, rom, rom32M, romCommon, romRefresh, romBank]
  case offsets =>
    rw [ctrlOff_of_no_entry hoff]
    refine ⟨rfl, rfl, rfl, rfl, rfl, rfl, fun n => ?_⟩
    simp [ctrlOffDefault, portOffset_toNat]
  case places =>
    simp only [packOf_of_no_entry hpack]
    exact ⟨rfl, rfl, rfl, rfl, rfl, rfl⟩
  case defaults =>
    refine ⟨rfl, rfl, rfl, rfl, rfl, rfl, rfl, rfl, rfl, rfl, rfl, rfl, fun d => ?_, rfl, rfl, rfl, rfl, rfl, rfl, rfl, rfl,
      rfl, rfl, rfl, rfl⟩
    cases d <;> rfl

end Sys2Proof.Machine
end

section
/-! PROOFS. The status invariant (10 R22 to R29, 43 R214): it holds at reset, every move keeps it, and from it a step always
answers. -/

namespace Sys2Proof.Safety

open Sys2Proof.Config Sys2Proof.Machine

/-! ### How the parts of the invariant read in a named state -/

/-- The states before the first attempt (10 R25). -/
def beforeLoop : FsmState → Bool
  | .idle | .entryRst | .clkSel | .phyCfg | .ctrlCfg | .trnHs => true
  | .trnPulse | .trnSample | .trnEval | .portEn | .done | .error => false

/-- The states from the first attempt on (10 R25). -/
def fromLoop : FsmState → Bool
  | .trnPulse | .trnSample | .trnEval | .portEn | .done => true
  | .idle | .entryRst | .clkSel | .phyCfg | .ctrlCfg | .trnHs | .error => false

/-- No error is recorded (60 R237). -/
def NoError (s : State) : Prop := s.err = false ∧ s.errCode = 0 ∧ s.errState = 0 ∧ s.errStep = 0

theorem inSegment_iff {s : State} {q : FsmState} (hs : s.state = stateCode q) :
    inSegment s ↔ commandBearing q = true := by
  simp [inSegment, hs]

section Reading

variable {s : State} {q : FsmState}

theorem StatusInv.noError (h : StatusInv s) (hs : s.state = stateCode q) (hq : q ≠ .error) : NoError s := by
  have herr : s.err = false := by
    rw [Bool.eq_false_iff, ne_eq, h.errIff, hs]
    simpa using hq
  exact ⟨herr, h.errFieldsClear herr⟩

theorem StatusInv.not_done (h : StatusInv s) (hs : s.state = stateCode q) (hq : q ≠ .done) : s.done = false := by
  rw [Bool.eq_false_iff, ne_eq, h.doneIff, hs]
  simpa using hq

theorem StatusInv.attempt_eq_zero (h : StatusInv s) (hs : s.state = stateCode q) (hq : beforeLoop q = true) :
    s.attempt = 0 :=
  h.attemptBefore q (stateOf_eq_some.mpr hs) (by cases q <;> simp_all [beforeLoop])

theorem StatusInv.attempt_pos (h : StatusInv s) (hs : s.state = stateCode q) (hq : fromLoop q = true) :
    1 ≤ s.attempt.toNat :=
  h.attemptDuring q (stateOf_eq_some.mpr hs) (by cases q <;> simp_all [fromLoop])

theorem StatusInv.class_isSome (h : StatusInv s) (hs : s.state = stateCode q) (hq : q ≠ .error) :
    (classOf s.dens).isSome = true :=
  h.classLegal (by simpa [hs] using hq)

theorem StatusInv.converged_after (h : StatusInv s) (hs : s.state = stateCode q) (hc : s.converged = true) :
    q = .portEn ∨ q = .done ∨ q = .error :=
  h.convergedAfter hc q (stateOf_eq_some.mpr hs)

/-- A command is in flight only in a segment, so without a segment nothing is. -/
theorem StatusInv.inSegment_of_flight (h : StatusInv s) {k : SeqState} (hk : s.seq = seqCode k) (hflight : k ≠ .idle) :
    inSegment s :=
  h.flightInSegment (by simpa [hk] using hflight)

end Reading

/-! ### How a state comes to meet the invariant -/

/-- A state entered at step 0 without an error meets the invariant if its flags and counters fit the state. -/
theorem statusInv_of_entered {t : State} {q : FsmState} (hstate : t.state = stateCode q) (hq : q ≠ .error)
    (hseq : t.seq = seqCode .idle) (hstep : t.step = 0) (hclean : NoError t) (hclass : (classOf t.dens).isSome = true)
    (hdone : t.done = true ↔ q = .done) (hbound : t.attempt.toNat ≤ attemptMax)
    (hbefore : beforeLoop q = true → t.attempt = 0) (hfrom : fromLoop q = true → 1 ≤ t.attempt.toNat)
    (hconv : t.converged = true → q = .portEn ∨ q = .done)
    (hexit : q = .portEn ∨ q = .done → t.converged = true ∨ t.attempt.toNat = attemptMax) : StatusInv t := by
  obtain ⟨herr, hfields⟩ := hclean
  have hname {p : FsmState} (hp : stateOf t.state = some p) : q = p := by
    simpa [hstate] using hp
  exact
    { stateLegal := by simp [hstate]
      seqLegal := by simp [hseq]
      flightInSegment := fun hne => absurd hseq hne
      stepZero := fun _ => hstep
      doneIff := by simpa [hstate] using hdone
      errIff := by simpa [herr, hstate] using hq
      errFieldsClear := fun _ => hfields
      errCodeSet := by simp [herr]
      attemptBound := hbound
      attemptBefore := by
        intro p hp hphase
        rw [← hname hp] at hphase
        exact hbefore (by rcases hphase with rfl | rfl | rfl | rfl | rfl | rfl <;> rfl)
      attemptDuring := by
        intro p hp hphase
        rw [← hname hp] at hphase
        exact hfrom (by rcases hphase with rfl | rfl | rfl | rfl | rfl <;> rfl)
      convergedAfter := by
        intro hc p hp
        rw [← hname hp]
        exact (hconv hc).imp_right .inl
      loopExit := by simpa [hstate] using hexit
      classLegal := fun _ => hclass }

/-- ERROR meets it whatever was recorded there. -/
theorem statusInv_raiseErr {s : State} (e : ErrCode) (hdone : s.done = false) (hbound : s.attempt.toNat ≤ attemptMax) :
    StatusInv (raiseErr e s) := by
  have hname {p : FsmState} (hp : stateOf (raiseErr e s).state = some p) : .error = p := by
    simpa using hp
  exact
    { stateLegal := by simp
      seqLegal := by simp
      flightInSegment := by simp
      stepZero := by simp
      doneIff := by simp [hdone]
      errIff := by simp
      errFieldsClear := by simp
      errCodeSet := fun _ => errCodeBits_ne_zero e
      attemptBound := by simpa using hbound
      attemptBefore := by
        intro p hp hphase
        simp [← hname hp] at hphase
      attemptDuring := by
        intro p hp hphase
        simp [← hname hp] at hphase
      convergedAfter := fun _ p hp => .inr (.inr (hname hp).symm)
      loopExit := by simp
      classLegal := by simp }

/-- `t` has the registers of `s` that the invariant speaks of, but for `step` and `seq`. -/
def SameStatus (s t : State) : Prop :=
  t.state = s.state ∧ t.dens = s.dens ∧ t.attempt = s.attempt ∧ t.converged = s.converged ∧ t.done = s.done ∧
    t.err = s.err ∧ t.errCode = s.errCode ∧ t.errState = s.errState ∧ t.errStep = s.errStep

theorem StatusInv.of_sameStatus {s t : State} (h : StatusInv s) (hsame : SameStatus s t)
    (hlegal : (seqOf t.seq).isSome = true) (hflight : t.seq ≠ seqCode .idle → inSegment s)
    (hstep : ¬ inSegment s → t.step = 0) : StatusInv t := by
  obtain ⟨hstate, hdens, hattempt, hconv, hdone, herr, herrCode, herrState, herrStep⟩ := hsame
  have hseg : inSegment t ↔ inSegment s := by simp [inSegment, hstate]
  exact
    { stateLegal := by simpa [hstate] using h.stateLegal
      seqLegal := hlegal
      flightInSegment := fun hne => hseg.mpr (hflight hne)
      stepZero := fun hne => hstep (hseg.not.mp hne)
      doneIff := by simpa [hstate, hdone] using h.doneIff
      errIff := by simpa [hstate, herr] using h.errIff
      errFieldsClear := by simpa [herr, herrCode, herrState, herrStep] using h.errFieldsClear
      errCodeSet := by simpa [herr, herrCode] using h.errCodeSet
      attemptBound := by simpa [hattempt] using h.attemptBound
      attemptBefore := by simpa only [hstate, hattempt] using h.attemptBefore
      attemptDuring := by simpa only [hstate, hattempt] using h.attemptDuring
      convergedAfter := by simpa only [hstate, hconv] using h.convergedAfter
      loopExit := by simpa only [hstate, hconv, hattempt] using h.loopExit
      classLegal := by simpa only [hstate, hdens] using h.classLegal }

theorem StatusInv.after_takePins {s : State} (h : StatusInv s) : StatusInv (takePins s) :=
  h.of_sameStatus ⟨rfl, rfl, rfl, rfl, rfl, rfl, rfl, rfl, rfl⟩ h.seqLegal h.flightInSegment h.stepZero

/-! ### Reset (10 R34) -/

theorem statusInv_resetEdge (s : State) : StatusInv (resetEdge s) :=
  statusInv_of_entered (q := .idle) rfl (by simp) rfl rfl ⟨rfl, rfl, rfl, rfl⟩ rfl (by simp) (by simp [attemptMax])
    (fun _ => rfl) (by simp [fromLoop]) (by simp) (by simp)

/-- The reset state of any CFG is the reset edge's outcome on itself. -/
theorem statusInv_reset (cfg : Cfg) : StatusInv { State.reset with cfg := cfg } := by
  have hedge : resetEdge { State.reset with cfg := cfg } = { State.reset with cfg := cfg } := rfl
  rw [← hedge]
  exact statusInv_resetEdge _

/-- Settles O51: at reset nothing is in flight, no error is recorded, and IDLE bears no commands. -/
theorem resetMeetsTheInvariants : Obligations.ResetMeetsTheInvariants := by
  unfold Obligations.ResetMeetsTheInvariants
  refine ⟨statusInv_reset State.reset.cfg, fun cfg hcfg => ?_⟩
  exact
    { statusInv_reset cfg with
      cfgOk := hcfg
      storageOk := rfl
      atCommand := by simp [inSegment_iff (q := .idle), State.reset, commandBearing]
      curInFlight := by simp [State.reset]
      onlyIllegalDensity := by simp [State.reset]
      convergedSamples := by simp [State.reset] }

/-! ### Every move keeps it -/

/-- Entering TRN_PULSE counts an attempt that is left. -/
theorem enterTrnPulse_attempt_toNat {s : State} (h : s.attempt.toNat < attemptMax) :
    (enterTrnPulse s).attempt.toNat = s.attempt.toNat + 1 := by
  rw [enterTrnPulse_attempt, nextAttempt_of_le h.le]
  have hlt : s.attempt.toNat < 100 := h
  have hone : (1 : BitVec 7).toNat = 1 := rfl
  rw [BitVec.toNat_add, hone]
  omega

/-- The plain rows of the END table stay on one side of the loop's entry and reach neither its exit nor ERROR. -/
theorem plainNext_phase {q q' : FsmState} (h : plainNext q = some q') :
    beforeLoop q' = beforeLoop q ∧ fromLoop q' = fromLoop q ∧ commandBearing q = true ∧ q ≠ .portEn ∧
      q' ≠ .portEn ∧ q' ≠ .done ∧ q' ≠ .error := by
  cases q <;> cases h <;> decide

section Moves

variable {s t : State}

theorem StatusInv.after_completion (h : StatusInv s) (v : Word) {k : SeqState} (hk : s.seq = seqCode k)
    (hflight : k ≠ .idle) :
    StatusInv (completion v k s) := by
  have hseg := h.inSegment_of_flight hk hflight
  refine h.of_sameStatus (by simp [SameStatus]) ?_ (fun _ => hseg) (fun hne => absurd hseg hne)
  cases k with
  | idle => exact absurd rfl hflight
  | wr | rd | rmwRd | rmwWr | dly => rfl

/-- A plain END, from a state of its own row. -/
theorem StatusInv.after_end (h : StatusInv s) {q q' : FsmState} (hrow : plainNext q = some q') (c : Cmd)
    (hs : s.state = stateCode q) (hseq : s.seq = seqCode .idle) : StatusInv (enter q' (setCur c s)) := by
  obtain ⟨hbefore, hfrom, hbears, hport, hport', hdone', herror'⟩ := plainNext_phase hrow
  have hdone : q ≠ .done := by rintro rfl; cases hbears
  have herror : q ≠ .error := by rintro rfl; cases hbears
  refine statusInv_of_entered rfl herror' hseq rfl (h.noError hs herror) (h.class_isSome hs herror) ?_ h.attemptBound
    (fun hb => h.attempt_eq_zero hs (hbefore ▸ hb)) (fun hf => h.attempt_pos hs (hfrom ▸ hf)) ?_ ?_
  · simp [h.not_done hs hdone, hdone']
  · intro hconv
    rcases h.converged_after hs hconv with rfl | rfl | rfl <;> contradiction
  · simp [hport', hdone']

/-- Entry into TRN_PULSE from TRN_HS or TRN_EVAL, with an attempt left. -/
theorem StatusInv.after_enterTrnPulse (h : StatusInv s) {q : FsmState} (hs : s.state = stateCode q)
    (hq : q = .trnHs ∨ q = .trnEval) (hseq : s.seq = seqCode .idle) (hleft : s.attempt.toNat < attemptMax) :
    StatusInv (enterTrnPulse s) := by
  have hcount := enterTrnPulse_attempt_toNat hleft
  have hdone : q ≠ .done := by rcases hq with rfl | rfl <;> simp
  have herror : q ≠ .error := by rcases hq with rfl | rfl <;> simp
  refine statusInv_of_entered (q := .trnPulse) rfl (by simp) hseq rfl (h.noError hs herror)
    (h.class_isSome hs herror) ?_ (by omega)
    (by simp [beforeLoop]) (fun _ => by omega) ?_ (by simp)
  · simp [h.not_done hs hdone]
  · intro hconv
    rcases hq with rfl | rfl <;> simpa using h.converged_after hs hconv

/-- Entry into PORT_EN from TRN_EVAL, converged or after the last attempt. -/
theorem StatusInv.after_enter_portEn (h : StatusInv s) (hs : s.state = stateCode .trnEval) (ht : t.state = stateCode .portEn)
    (hseq : t.seq = seqCode .idle) (hstep : t.step = 0) (hclean : NoError s → NoError t) (hdens : t.dens = s.dens)
    (hdone : t.done = s.done) (hattempt : t.attempt = s.attempt)
    (hexit : t.converged = true ∨ t.attempt.toNat = attemptMax) : StatusInv t := by
  refine statusInv_of_entered ht (by simp) hseq hstep (hclean (h.noError hs (by simp))) ?_ ?_ ?_ (by simp [beforeLoop])
    (fun _ => ?_) (by simp) fun _ => hexit
  · rw [hdens]
    exact h.class_isSome hs (by simp)
  · simp [hdone, h.not_done hs (by simp)]
  · rw [hattempt]
    exact h.attemptBound
  · rw [hattempt]
    exact h.attempt_pos hs rfl

/-- END of PORT_EN. -/
theorem StatusInv.after_finish (h : StatusInv s) (hs : s.state = stateCode .portEn) (hseq : s.seq = seqCode .idle) :
    StatusInv (finish s) :=
  statusInv_of_entered (q := .done) rfl (by simp) hseq rfl (h.noError hs (by simp)) (h.class_isSome hs (by simp)) (by simp)
    h.attemptBound (by simp [beforeLoop]) (fun _ => h.attempt_pos hs rfl) (by simp) fun _ => h.loopExit (.inl hs)

theorem StatusInv.after_setCur (h : StatusInv s) (c : Cmd) : StatusInv (setCur c s) :=
  h.of_sameStatus ⟨rfl, rfl, rfl, rfl, rfl, rfl, rfl, rfl, rfl⟩ h.seqLegal h.flightInSegment h.stepZero

/-- A command-bearing state is not DONE. -/
theorem StatusInv.not_done_of_inSegment (h : StatusInv s) (hseg : inSegment s) : s.done = false := by
  obtain ⟨q, hq, hbears⟩ := hseg
  exact h.not_done (stateOf_eq_some.mp hq) (by rintro rfl; cases hbears)

theorem StatusInv.after_move (h : StatusInv s) {p : Pins} (hmove : Move p s t) : StatusInv t := by
  cases hmove with
  | illegalState hunused => exact absurd h.stateLegal (by simp [hunused])
  | waits => exact h
  | completes k _ hk hflight _ => exact h.after_completion p.mRdata hk hflight
  | idles => exact h
  | starts hs hseq _ hclass =>
    exact statusInv_of_entered (q := .entryRst) rfl (by simp) hseq rfl (h.noError hs (by simp)) hclass
      (by simp [h.not_done hs]) (by simp [attemptMax]) (fun _ => rfl) (by simp [fromLoop]) (by simp) (by simp)
  | refusesClass hs => exact statusInv_raiseErr _ (h.not_done hs (by simp)) h.attemptBound
  | rests => exact h
  | converges d hs hseq => exact h.after_enter_portEn hs rfl hseq rfl id rfl rfl rfl (.inl rfl)
  | retries hs hseq hleft => exact h.after_enterTrnPulse hs (.inr rfl) hseq hleft
  | exhausts hs hseq hlast => exact h.after_enter_portEn hs rfl hseq rfl id rfl rfl rfl (.inr hlast)
  | refusesWord c hseg => exact statusInv_raiseErr _ (h.not_done_of_inSegment hseg) h.attemptBound
  | issues i k hseg =>
    exact h.of_sameStatus ⟨rfl, rfl, rfl, rfl, rfl, rfl, rfl, rfl, rfl⟩ (by simp) (fun _ => hseg)
      fun hne => absurd hseg hne
  | ends q q' hrow hs hseq => exact h.after_end hrow _ hs hseq
  | endsTrnHs hs hseq =>
    refine (h.after_setCur _).after_enterTrnPulse hs (.inl rfl) hseq ?_
    simp [h.attempt_eq_zero hs rfl, attemptMax]
  | endsPortEn hs hseq => exact (h.after_setCur _).after_finish hs hseq

end Moves

/-- Settles O52: the reset edge meets the invariant, and every move keeps it. -/
theorem stepKeepsStatusInv : Obligations.StepKeepsStatusInv := by
  unfold Obligations.StepKeepsStatusInv
  intro s t h hstep
  rcases step_moves hstep with ⟨-, rfl⟩ | ⟨-, hmove⟩
  · exact statusInv_resetEdge _
  · exact h.after_takePins.after_move hmove

/-! ### A step always answers -/

section Answers

variable {s : State}

theorem exec_answers (hseg : inSegment s) (i : Instr) : ∃ t, exec i s = .next t := by
  rcases exec_cases (r := exec i s) rfl with ⟨k, -, -, ht⟩ | ⟨-, ht⟩ | ⟨rfl, ht⟩
  · exact ⟨_, ht⟩
  · exact ⟨_, ht⟩
  · obtain ⟨q, hq, hbears⟩ := hseg
    rcases endSegment_cases ht.symm with ⟨q₁, q₂, -, -, he⟩ | ⟨-, he⟩ | ⟨-, he⟩ | ⟨hnone, -⟩
    · exact ⟨_, he⟩
    · exact ⟨_, he⟩
    · exact ⟨_, he⟩
    · have hnot := hnone q hq
      simp [hbears] at hnot

/-- In a segment a legal class has a word to fetch. -/
theorem fetch_isSome (hseg : inSegment s) (hclass : (classOf s.dens).isSome = true) : (fetch s).isSome = true := by
  obtain ⟨q, hq, -⟩ := hseg
  obtain ⟨d, hd⟩ := Option.isSome_iff_exists.mp hclass
  simp [fetch, segWord, hq, hd]

theorem fetchExec_answers (hseg : inSegment s) (hclass : (classOf s.dens).isSome = true) :
    ∃ t, fetchExec s = .next t := by
  rcases fetchExec_cases (r := fetchExec s) rfl with ⟨hnone, -⟩ | ⟨c, i, -, -, ht⟩ | ⟨c, e, -, -, ht⟩
  · simpa [hnone] using fetch_isSome hseg hclass
  · rw [ht]
    exact exec_answers (s := setCur c s) hseg i
  · exact ⟨_, ht⟩

theorem trnEval_answers (hclass : (classOf s.dens).isSome = true) (hbound : s.attempt.toNat ≤ attemptMax) :
    ∃ t, trnEval s = .next t := by
  rcases trnEval_cases (r := trnEval s) rfl with ⟨hnone, -⟩ | ⟨d, -, ⟨-, ht⟩ | ⟨-, ⟨-, ht⟩ | ⟨-, ht⟩ | ⟨hover, -⟩⟩⟩
  · simp [hnone] at hclass
  · exact ⟨_, ht⟩
  · exact ⟨_, ht⟩
  · exact ⟨_, ht⟩
  · omega

theorem StatusInv.step_answers (h : StatusInv s) : ∃ t, step s = .next t := by
  rcases step_cases (r := step s) rfl with ⟨-, ht⟩ | ⟨-, -, ht⟩ | ⟨-, -, -, ht⟩ | ⟨-, -, -, ht⟩ | ⟨-, hq, -, ht⟩ |
    ⟨-, -, -, ht⟩ | ⟨-, hseg, -, ht⟩
  · exact ⟨_, ht⟩
  · exact ⟨_, ht⟩
  · obtain ⟨k, hk⟩ := Option.isSome_iff_exists.mp h.seqLegal
    exact ⟨_, ht.trans (complete_eq (s := takePins s) _ (seqOf_eq_some.mp hk))⟩
  · exact ⟨_, ht⟩
  · rw [ht]
    exact trnEval_answers (h.after_takePins.class_isSome (stateOf_eq_some.mp hq) (by simp)) h.attemptBound
  · exact ⟨_, ht⟩
  · obtain ⟨q, hq, hbears⟩ := hseg
    rw [ht]
    refine fetchExec_answers (s := takePins s) ⟨q, hq, hbears⟩ ?_
    exact h.class_isSome (stateOf_eq_some.mp hq) (by rintro rfl; cases hbears)

end Answers

/-- Settles O53: `step_answers`, and the rows that the END table lacks. -/
theorem stepNeverStops : Obligations.StepNeverStops := by
  unfold Obligations.StepNeverStops
  refine ⟨fun s h => h.step_answers, fun s hseg => ?_⟩
  rw [exec_endSeg]
  rcases endSegment_cases (s := setCur (encode .endSeg) s) rfl with ⟨q, q', hq, hrow, -⟩ | ⟨hq, -⟩ | ⟨hq, -⟩ | ⟨-, hfault⟩
  · refine absurd ⟨q, hq, ?_⟩ hseg
    rcases hrow with ⟨rfl, -⟩ | ⟨rfl, -⟩ | ⟨rfl, -⟩ | ⟨rfl, -⟩ | ⟨rfl, -⟩ | ⟨rfl, -⟩ <;> rfl
  · exact absurd ⟨_, hq, rfl⟩ hseg
  · exact absurd ⟨_, hq, rfl⟩ hseg
  · exact hfault

/-- Settles O55: in DONE no error is recorded, and the loop was left by convergence or after 100 attempts. -/
theorem doneHasOneOfTwoOutcomes : Obligations.DoneHasOneOfTwoOutcomes := by
  unfold Obligations.DoneHasOneOfTwoOutcomes
  intro s h hs
  obtain ⟨herr, -⟩ := h.toStatusInv.noError hs (by simp)
  have hdone : s.done = true := h.doneIff.mpr hs
  cases hconv : s.converged with
  | true =>
    refine .inl ⟨by simp [outcomeOf, herr, hdone, hconv], rfl, ?_, h.attemptBound, h.convergedSamples hconv⟩
    exact h.toStatusInv.attempt_pos hs rfl
  | false =>
    refine .inr ⟨by simp [outcomeOf, herr, hdone, hconv], rfl, ?_⟩
    exact (h.loopExit (.inr hs)).resolve_left (by simp [hconv])

end Sys2Proof.Safety
end

section
/-! PROOFS. The run invariant: under a valid CFG with undamaged segments the FSM stands at a command of its segment, and so
no illegal command is met and every access lies in its phase's window (41 R136, 43 R206, 70 R270). -/

namespace Sys2Proof.Safety

open Sys2Proof.Config Sys2Proof.Machine

/-! ### The command at the present position -/

theorem currentInstr_eq {s : State} {q : FsmState} {d : Density} (hs : s.state = stateCode q)
    (hd : classOf s.dens = some d) : currentInstr s = (segInstrs q d s.cfg)[s.step.toNat]? := by
  simp [currentInstr, hs, hd]

/-- A segment has a first command. -/
theorem currentInstr_of_step_zero {t : State} (hclass : (classOf t.dens).isSome = true) (hstep : t.step = 0)
    (hseg : inSegment t) : (currentInstr t).isSome = true := by
  obtain ⟨q, hq, hbears⟩ := hseg
  obtain ⟨d, hd⟩ := Option.isSome_iff_exists.mp hclass
  obtain ⟨body, hbody, -⟩ := segInstrs_body t.cfg d hbears
  rw [currentInstr_eq (stateOf_eq_some.mp hq) hd, hbody, hstep]
  simp

/-- A well-formed command is the only one with its word. -/
theorem encode_injective_of_wf {i j : Instr} (hi : i.wf = true) (hj : j.wf = true) (h : encode i = encode j) : i = j := by
  have hdecode := decode_encode hi
  rw [h, decode_encode hj] at hdecode
  exact (Except.ok.inj hdecode).symm

section Command

variable {s : State}

/-- Where the FSM stands in a segment: its state, class and command. -/
theorem RunInv.command (h : RunInv s) (hseg : inSegment s) :
    ∃ q d i, s.state = stateCode q ∧ commandBearing q = true ∧ classOf s.dens = some d ∧
      (segInstrs q d s.cfg)[s.step.toNat]? = some i ∧ currentInstr s = some i := by
  obtain ⟨i, hi⟩ := Option.isSome_iff_exists.mp (h.atCommand hseg)
  obtain ⟨q, hq, hbears⟩ := hseg
  have hs := stateOf_eq_some.mp hq
  have herror : q ≠ .error := by rintro rfl; cases hbears
  obtain ⟨d, hd⟩ := Option.isSome_iff_exists.mp (h.toStatusInv.class_isSome hs herror)
  exact ⟨q, d, i, hs, hbears, hd, (currentInstr_eq hs hd).symm.trans hi, hi⟩

/-- The word fetched is that of the present command, which is well-formed. -/
theorem RunInv.fetch_eq (h : RunInv s) (hseg : inSegment s) :
    ∃ i, currentInstr s = some i ∧ i.wf = true ∧ fetch s = some (encode i) := by
  obtain ⟨q, d, i, hs, -, hd, hi, hcurrent⟩ := h.command hseg
  refine ⟨i, hcurrent, segInstrs_wf h.cfgOk (List.mem_of_getElem? hi), ?_⟩
  exact fetch_of_segment h.storageOk (stateOf_eq_some.mpr hs) hd hi

theorem RunInv.legal_of_fetch (h : RunInv s) (hseg : inSegment s) {c : Cmd} (hfetch : fetch s = some c) :
    legal c = true := by
  obtain ⟨i, -, hwf, hi⟩ := h.fetch_eq hseg
  rw [Option.some.inj (hfetch.symm.trans hi)]
  exact legal_encode hwf

theorem RunInv.currentInstr_of_fetch (h : RunInv s) (hseg : inSegment s) {i : Instr} (hwf : i.wf = true)
    (hfetch : fetch s = some (encode i)) : currentInstr s = some i := by
  obtain ⟨j, hcurrent, hj, hfetch'⟩ := h.fetch_eq hseg
  rw [encode_injective_of_wf hwf hj (Option.some.inj (hfetch.symm.trans hfetch'))]
  exact hcurrent

/-- The command in flight is a member of the segment. -/
theorem RunInv.flight (h : RunInv s) {k : SeqState} (hk : s.seq = seqCode k) (hflight : k ≠ .idle) :
    ∃ q d i, s.state = stateCode q ∧ commandBearing q = true ∧ classOf s.dens = some d ∧
      (segInstrs q d s.cfg)[s.step.toNat]? = some i ∧ s.cur = encode i ∧ k ∈ flightOf i := by
  obtain ⟨q, d, i, hs, hbears, hd, hi, hcurrent⟩ := h.command (h.toStatusInv.inSegment_of_flight hk hflight)
  obtain ⟨j, hj, hcur, hmem⟩ := h.curInFlight k (seqOf_eq_some.mpr hk) hflight
  obtain rfl := Option.some.inj (hcurrent.symm.trans hj)
  exact ⟨q, d, i, hs, hbears, hd, hi, hcur, hmem⟩

end Command

/-- A command that is issued is not END, so another command follows it in its segment. -/
theorem next_command {cfg : Cfg} {q : FsmState} {d : Density} {n : Nat} {i : Instr} (hbears : commandBearing q = true)
    (hi : (segInstrs q d cfg)[n]? = some i) (hne : i ≠ .endSeg) : n + 1 < (segInstrs q d cfg).length := by
  obtain ⟨body, hbody, -⟩ := segInstrs_body cfg d hbears
  have hn : n < (segInstrs q d cfg).length := (List.getElem?_eq_some_iff.mp hi).1
  by_contra hlast
  have hend : n = body.length := by
    rw [hbody, List.length_append, List.length_singleton] at hn hlast
    omega
  rw [hbody, hend, List.getElem?_concat_length] at hi
  exact hne (Option.some.inj hi).symm

/-- Within a segment the step counter counts. -/
theorem nextStep_toNat {s : State} (h : s.step.toNat < 255) : (nextStep s).toNat = s.step.toNat + 1 := by
  have hne : s.step ≠ 255 := by
    intro heq
    simp [heq] at h
  have hone : (1 : BitVec 8).toNat = 1 := rfl
  rw [nextStep_of_ne hne, BitVec.toNat_add, hone]
  omega

/-- What follows a command that completes its last sub-state. -/
theorem RunInv.step_lt (h : RunInv s) {k : SeqState} (hk : s.seq = seqCode k) (hflight : k ≠ .idle) :
    ∃ q d, s.state = stateCode q ∧ classOf s.dens = some d ∧ s.step.toNat + 1 < (segInstrs q d s.cfg).length ∧
      s.step.toNat < 255 := by
  obtain ⟨q, d, i, hs, hbears, hd, hi, -, hmem⟩ := h.flight hk hflight
  have hnext := next_command hbears hi (by rintro rfl; cases hmem)
  have hlength := segInstrs_length_le h.cfgOk d q
  exact ⟨q, d, hs, hd, hnext, by omega⟩

/-- After the read half of an RMW its write half is in flight, after every other completion nothing is. -/
theorem completion_seq (v : Word) {k : SeqState} (s : State) (hflight : k ≠ .idle) :
    (completion v k s).seq = if k = .rmwRd then seqCode .rmwWr else seqCode .idle := by
  cases k with
  | idle => exact absurd rfl hflight
  | wr | rd | rmwRd | rmwWr | dly => rfl

theorem completion_step (v : Word) {k : SeqState} (s : State) (hflight : k ≠ .idle) :
    (completion v k s).step = if k = .rmwRd then s.step else nextStep s := by
  cases k with
  | idle => exact absurd rfl hflight
  | wr | rd | rmwRd | rmwWr | dly => rfl

/-! ### Every move keeps the invariant, part by part -/

section Moves

variable {p : Pins} {s t : State}

theorem RunInv.after_takePins (h : RunInv s) : RunInv (takePins s) :=
  { h.toStatusInv.after_takePins with
    cfgOk := h.cfgOk
    storageOk := h.storageOk
    atCommand := h.atCommand
    curInFlight := h.curInFlight
    onlyIllegalDensity := h.onlyIllegalDensity
    convergedSamples := h.convergedSamples }

theorem not_inSegment_raiseErr (e : ErrCode) (s : State) : ¬ inSegment (raiseErr e s) := by
  simp [inSegment_iff (raiseErr_state e s), commandBearing]

theorem RunInv.atCommand_completion (h : RunInv s) (v : Word) {k : SeqState} (hk : s.seq = seqCode k)
    (hflight : k ≠ .idle) : (currentInstr (completion v k s)).isSome = true := by
  by_cases hread : k = .rmwRd
  · subst hread
    exact h.atCommand (h.toStatusInv.inSegment_of_flight hk hflight)
  · obtain ⟨q, d, hs, hd, hnext, hlt⟩ := h.step_lt hk hflight
    have hstep : (completion v k s).step.toNat = s.step.toNat + 1 := by
      rw [completion_step v s hflight, if_neg hread, nextStep_toNat hlt]
    rw [currentInstr_eq (q := q) (d := d) (by simpa using hs) (by simpa using hd), hstep, completion_cfg]
    simpa using hnext

theorem RunInv.atCommand_move (h : RunInv s) (hmove : Move p s t) (hseg : inSegment t) :
    (currentInstr t).isSome = true := by
  have hclass {q : FsmState} (hs : s.state = stateCode q) (hq : q ≠ .error) := h.toStatusInv.class_isSome hs hq
  cases hmove with
  | illegalState | refusesClass | refusesWord => exact absurd hseg (not_inSegment_raiseErr _ _)
  | waits | idles | rests | issues => exact h.atCommand hseg
  | completes k _ hk hflight => exact h.atCommand_completion _ hk hflight
  | starts _ _ _ hd => exact currentInstr_of_step_zero hd rfl hseg
  | converges _ hs | retries hs | exhausts hs | endsTrnHs hs | endsPortEn hs =>
    exact currentInstr_of_step_zero (hclass hs (by simp)) rfl hseg
  | ends q q' hrow hs =>
    refine currentInstr_of_step_zero (hclass hs ?_) rfl hseg
    rintro rfl
    cases hrow

/-- The command in flight is the present one (10 R20, R29), as the invariant says it. -/
def CurInFlight (s : State) : Prop :=
  ∀ q, seqOf s.seq = some q → q ≠ .idle → ∃ i, currentInstr s = some i ∧ s.cur = encode i ∧ q ∈ flightOf i

theorem curInFlight_of_seq_idle (hseq : t.seq = seqCode .idle) : CurInFlight t := by
  intro q hq hne
  rw [hseq, seqOf_seqCode] at hq
  exact absurd (Option.some.inj hq).symm hne

theorem RunInv.curInFlight_completion (h : RunInv s) (v : Word) {k : SeqState} (hk : s.seq = seqCode k)
    (hflight : k ≠ .idle) : CurInFlight (completion v k s) := by
  by_cases hread : k = .rmwRd
  · subst hread
    intro q hq _
    obtain ⟨i, hi, hcur, hmem⟩ := h.curInFlight _ (seqOf_eq_some.mpr hk) hflight
    obtain rfl : .rmwWr = q := by simpa [completion_seq v s hflight] using hq
    refine ⟨i, hi, hcur, ?_⟩
    cases i with
    | rmw => simp [flightOf]
    | wr | rd | dly | endSeg => simp [flightOf] at hmem
  · exact curInFlight_of_seq_idle (by rw [completion_seq v s hflight, if_neg hread])

theorem RunInv.curInFlight_move (h : RunInv s) (hmove : Move p s t) : CurInFlight t := by
  cases hmove with
  | illegalState | refusesClass | refusesWord => exact curInFlight_of_seq_idle rfl
  | waits | idles | rests => exact h.curInFlight
  | completes k _ hk hflight => exact h.curInFlight_completion _ hk hflight
  | starts _ hseq | converges _ _ hseq | retries _ hseq | exhausts _ hseq | ends _ _ _ _ hseq | endsTrnHs _ hseq
  | endsPortEn _ hseq => exact curInFlight_of_seq_idle hseq
  | issues i k hseg _ hfetch hwf hk =>
    intro q hq _
    obtain rfl : k = q := by simpa using hq
    exact ⟨i, h.currentInstr_of_fetch hseg hwf hfetch, rfl, List.mem_of_mem_head? hk⟩

theorem RunInv.onlyIllegalDensity_move (h : RunInv s) (hmove : Move p s t) (herr : t.err = true) :
    t.errCode = errCodeBits .illegalDensity ∧ t.errState = 0 ∧ t.errStep = 0 := by
  cases hmove with
  | illegalState hunused => exact absurd h.stateLegal (by simp [hunused])
  | refusesWord c hseg _ hfetch hlegal => simp [h.legal_of_fetch hseg hfetch] at hlegal
  | refusesClass hs =>
    refine ⟨rfl, hs, h.stepZero ?_⟩
    simp [inSegment_iff hs, commandBearing]
  | completes k => simpa using h.onlyIllegalDensity (by simpa using herr)
  | _ => exact h.onlyIllegalDensity herr

/-- PORT_EN reads nothing into the samples. -/
theorem not_rd_of_portEn {cfg : Cfg} {d : Density} {i : Instr} (hi : i ∈ segInstrs .portEn d cfg) :
    .rd ∉ flightOf i := by
  simp only [segInstrs, portEnSeg, gateWr, List.mem_cons, List.not_mem_nil, or_false] at hi
  rcases hi with rfl | rfl | rfl | rfl | rfl <;> simp [flightOf]

/-- The samples of a converged run stay: what completes then belongs to PORT_EN. -/
theorem RunInv.completion_S_of_converged (h : RunInv s) (v : Word) {k : SeqState} (hk : s.seq = seqCode k)
    (hflight : k ≠ .idle) (hconv : s.converged = true) : (completion v k s).S = s.S := by
  obtain ⟨q, d, i, hs, hbears, -, hi, -, hmem⟩ := h.flight hk hflight
  rw [completion_S, if_neg]
  rintro rfl
  rcases h.toStatusInv.converged_after hs hconv with rfl | rfl | rfl
  · exact not_rd_of_portEn (List.mem_of_getElem? hi) hmem
  · cases hbears
  · cases hbears

theorem RunInv.convergedSamples_move (h : RunInv s) (hmove : Move p s t) (hconv : t.converged = true) :
    ∃ d, classOf t.dens = some d ∧ pred t.cfg.trn.diffMode t.S (nsamp t.cfg d) = true := by
  cases hmove with
  | illegalState hunused => exact absurd h.stateLegal (by simp [hunused])
  | refusesWord c hseg _ hfetch hlegal => simp [h.legal_of_fetch hseg hfetch] at hlegal
  | refusesClass hs =>
    have hafter := h.toStatusInv.converged_after hs (by simpa using hconv)
    simp at hafter
  | starts => simp at hconv
  | converges d _ _ hd hpred => exact ⟨d, hd, hpred⟩
  | completes k _ hk hflight =>
    rw [completion_converged] at hconv
    rw [h.completion_S_of_converged _ hk hflight hconv, completion_dens, completion_cfg]
    exact h.convergedSamples hconv
  | _ => exact h.convergedSamples hconv

end Moves

/-- Reset keeps CFG and the storage, and the rest of the invariant holds of every reset state. -/
theorem RunInv.after_resetEdge {s : State} (h : RunInv s) : RunInv (resetEdge s) :=
  { statusInv_resetEdge s with
    cfgOk := h.cfgOk
    storageOk := h.storageOk
    atCommand := by simp [inSegment_iff (resetEdge_state s), commandBearing]
    curInFlight := by simp
    onlyIllegalDensity := by simp
    convergedSamples := by simp }

theorem RunInv.after_step {s t : State} (h : RunInv s) (hstep : step s = .next t) : RunInv t := by
  have hstatus := stepKeepsStatusInv s t h.toStatusInv hstep
  obtain ⟨hcfg, hstorage⟩ := step_sameConfig hstep
  rcases step_moves hstep with ⟨-, rfl⟩ | ⟨-, hmove⟩
  · exact h.after_takePins.after_resetEdge
  · exact
      { hstatus with
        cfgOk := hcfg ▸ h.cfgOk
        storageOk := hstorage ▸ h.storageOk
        atCommand := h.after_takePins.atCommand_move hmove
        curInFlight := h.after_takePins.curInFlight_move hmove
        onlyIllegalDensity := h.after_takePins.onlyIllegalDensity_move hmove
        convergedSamples := h.after_takePins.convergedSamples_move hmove }

/-- Settles O54: the status part by O52, CFG and the storage by O35, the other parts move by move. -/
theorem stepKeepsRunInv : Obligations.StepKeepsRunInv := by
  unfold Obligations.StepKeepsRunInv
  exact fun s t h => h.after_step

/-! ### Where the accesses go (20 R51, 70 R270) -/

/-- A completed access has the address in `cur`, and only a delay is none. -/
theorem eventAddr_completionEvent {v : Word} {s : State} {k : SeqState} {e : Event} {a : Word}
    (he : completionEvent v s k = some e) (ha : eventAddr e = some a) : a = curAddr s ∧ k ≠ .dly := by
  cases k with
  | idle => cases he
  | wr | rd | rmwRd | rmwWr =>
    cases he
    exact ⟨(Option.some.inj ha).symm, by simp⟩
  | dly =>
    cases he
    cases ha

theorem place_of_flight {i : Instr} {k : SeqState} (hk : k ∈ flightOf i) (hdly : k ≠ .dly) :
    ∃ sp off, placeOf i = some (sp, off) := by
  cases i with
  | wr | rd | rmw => exact ⟨_, _, rfl⟩
  | dly => exact absurd (List.mem_singleton.mp hk) hdly
  | endSeg => cases hk

theorem place_aligned {i : Instr} {sp : Space} {off : Off} (hwf : i.wf = true) (hplace : placeOf i = some (sp, off)) :
    offAligned off = true := by
  cases i with
  | wr | rd =>
    cases hplace
    exact hwf
  | rmw =>
    cases hplace
    simp only [Instr.wf, Bool.and_eq_true] at hwf
    obtain ⟨⟨haligned, -⟩, -⟩ := hwf
    exact haligned
  | dly | endSeg => cases hplace

theorem place_of_writesTo {cfg : Cfg} {i : Instr} {sp sp' : Space} {off : Off} (h : WritesTo cfg sp i)
    (hplace : placeOf i = some (sp', off)) : sp' = sp := by
  obtain ⟨off', v, rfl, -⟩ := h
  cases hplace
  rfl

/-- The spaces of the phases that 70 R270 names. -/
theorem place_space {cfg : Cfg} {d : Density} {q : FsmState} {i : Instr} {sp : Space} {off : Off}
    (hi : i ∈ segInstrs q d cfg) (hplace : placeOf i = some (sp, off)) :
    (q = .entryRst → sp = .sys) ∧ (q = .clkSel → sp = .clk) ∧ (q = .phyCfg ∨ q = .trnSample → sp = .phy) ∧
      (q = .ctrlCfg → sp = .ctrl) := by
  refine ⟨?entryRst, ?clkSel, ?phy, ?ctrlCfg⟩
  case entryRst =>
    rintro rfl
    rcases mem_entryRst hi with rfl | ⟨ns, rfl⟩ | hwrite
    · cases hplace
    · cases hplace
    · exact place_of_writesTo hwrite hplace
  case clkSel =>
    rintro rfl
    rcases mem_clkSel hi with rfl | rfl <;> cases hplace
    rfl
  case phy =>
    rintro (rfl | rfl)
    · rcases mem_phyCfg hi with rfl | hwrite
      · cases hplace
      · exact place_of_writesTo hwrite hplace
    · rcases mem_trnSample hi with rfl | ⟨k, off', rfl, -⟩ <;> cases hplace
      rfl
  case ctrlCfg =>
    rintro rfl
    rcases mem_ctrlCfg hi with rfl | hwrite
    · cases hplace
    · exact place_of_writesTo hwrite hplace

/-- An event of a step is the completion of a command of the segment. -/
theorem RunInv.event_of_step {s t : State} {e : Event} {a : Word} (h : RunInv s) (hstep : step s = .next t)
    (htrace : t.trace = s.trace ++ [e]) (ha : eventAddr e = some a) :
    ∃ q d i sp off, s.state = stateCode q ∧ i ∈ segInstrs q d s.cfg ∧ placeOf i = some (sp, off) ∧
      a = physAddr s.cfg sp off := by
  rcases step_moves hstep with ⟨-, rfl⟩ | ⟨-, hmove⟩
  · simp at htrace
  · cases hmove with
    | completes k _ hk hflight =>
      obtain ⟨q, d, i, hs, -, -, hi, hcur, hmem⟩ := h.flight hk hflight
      rw [completion_trace] at htrace
      have hevent : completionEvent (pinsNow s).mRdata (takePins s) k = some e := by
        simpa [Option.toList_eq_singleton_iff] using htrace
      obtain ⟨rfl, hdly⟩ := eventAddr_completionEvent hevent ha
      obtain ⟨sp, off, hplace⟩ := place_of_flight hmem hdly
      exact ⟨q, d, i, sp, off, hs, List.mem_of_getElem? hi, hplace, curAddr_of_cur (s := takePins s) hcur hplace⟩
    | _ => simp at htrace

/-- Settles O56: the access is a command's of the segment, whose offset is aligned and whose space is the phase's. -/
theorem accessesLieInTheirWindows : Obligations.AccessesLieInTheirWindows := by
  unfold Obligations.AccessesLieInTheirWindows
  intro s q e a t h hq hstep htrace ha
  obtain ⟨q', d, i, sp, off, hs, hi, hplace, rfl⟩ := h.event_of_step hstep htrace ha
  obtain rfl : q' = q := by simpa [hs] using hq
  obtain ⟨hplatform, -⟩ := (cfgValid_iff s.cfg).mp h.cfgOk
  have hwindow := inWindow_physAddr hplatform sp off
  obtain ⟨hsys, hclk, hphy, hctrl⟩ := place_space hi hplace
  refine ⟨physAddr_aligned hplatform sp (place_aligned (segInstrs_wf h.cfgOk hi) hplace), ⟨sp, hwindow⟩, fun hq => ?_,
    fun hq => ?_, fun hq => ?_, fun hq => ?_⟩
  · rw [← hsys hq]; exact hwindow
  · rw [← hclk hq]; exact hwindow
  · rw [← hphy hq]; exact hwindow
  · rw [← hctrl hq]; exact hwindow

end Sys2Proof.Safety
end

section
/-! PROOFS. Progress (43 R213, 70 R272): in a responsive environment every step of a busy block leaves less work, and so the
block reaches DONE. -/

namespace Sys2Proof.Safety

open Sys2Proof.Config Sys2Proof.Machine

/-! ### The bound -/

/-- Within one stage at most 255 commands of at most 3 steps are left, so a stage outweighs them. -/
theorem workLeft_lt_of_stage {s t : State} (h : stagesLeft t < stagesLeft s) : workLeft t < workLeft s := by
  have hflight : flightLeft t ≤ 2 := by
    unfold flightLeft
    split <;> omega
  simp only [workLeft]
  omega

theorem workLeft_lt_of_command {s t : State} (hstage : stagesLeft t = stagesLeft s) (hlt : s.step.toNat < 255)
    (hstep : t.step.toNat = s.step.toNat + 1) (hflight : flightLeft t ≤ 2) : workLeft t < workLeft s := by
  simp only [workLeft, hstage, hstep]
  omega

theorem workLeft_lt_of_flight {s t : State} (hstage : stagesLeft t = stagesLeft s) (hstep : t.step = s.step)
    (hflight : flightLeft t < flightLeft s) : workLeft t < workLeft s := by
  simp only [workLeft, hstage, hstep]
  omega

theorem stagesLeft_congr {s t : State} (hstate : t.state = s.state) (hattempt : t.attempt = s.attempt) :
    stagesLeft t = stagesLeft s := by
  simp only [stagesLeft, hstate, hattempt]

/-- A plain row of the END table is one stage less. -/
theorem stagesLeft_plainNext {s : State} {q q' : FsmState} (hrow : plainNext q = some q') (hs : s.state = stateCode q)
    (c : Cmd) : stagesLeft (enter q' (setCur c s)) < stagesLeft s := by
  cases q <;> cases hrow <;> simp [stagesLeft, hs]

theorem stagesLeft_trnEval {s : State} (hs : s.state = stateCode .trnEval) :
    stagesLeft s = 3 * (attemptMax - s.attempt.toNat) + 2 := by
  simp [stagesLeft, hs]

theorem stagesLeft_portEn {s : State} (hs : s.state = stateCode .portEn) : stagesLeft s = 1 := by
  simp [stagesLeft, hs]

/-- An attempt has three stages, and the one entered is counted. -/
theorem stagesLeft_enterTrnPulse {s : State} (hleft : s.attempt.toNat < attemptMax) :
    stagesLeft (enterTrnPulse s) = 3 * (attemptMax - s.attempt.toNat) + 1 := by
  have hcount := enterTrnPulse_attempt_toNat hleft
  simp only [stagesLeft, enterTrnPulse_state, stateOf_stateCode, hcount]
  omega

/-! ### A responsive step -/

theorem answered_of_responsive {p : Pins} (h : responsive p = true) {k : SeqState} (hk : k ≠ .idle) :
    answered p k = true := by
  simp only [responsive, Bool.and_eq_true] at h
  obtain ⟨⟨-, hack⟩, hdone⟩ := h
  cases k with
  | idle => exact absurd rfl hk
  | wr | rd | rmwRd | rmwWr => exact hack
  | dly => exact hdone

theorem rst_of_responsive {p : Pins} (h : responsive p = true) : p.rst = false := by
  simp only [responsive, Bool.and_eq_true, Bool.not_eq_true'] at h
  obtain ⟨⟨hrst, -⟩, -⟩ := h
  exact hrst

theorem state_ne_of_busy {s : State} (h : busy s = true) {q : FsmState} (hs : s.state = stateCode q) :
    q ≠ .idle ∧ q ≠ .done ∧ q ≠ .error := by
  rw [busy_iff, hs] at h
  refine ⟨?_, ?_, ?_⟩ <;> rintro rfl <;> simp [stateCode] at h

section Progress

variable {s t : State} {p : Pins}

theorem RunInv.workLeft_completion (h : RunInv s) (v : Word) {k : SeqState} (hk : s.seq = seqCode k)
    (hflight : k ≠ .idle) : workLeft (completion v k s) < workLeft s := by
  have hstage : stagesLeft (completion v k s) = stagesLeft s := stagesLeft_congr (by simp) (by simp)
  by_cases hread : k = .rmwRd
  · subst hread
    exact workLeft_lt_of_flight hstage rfl (by simp [flightLeft, completion_seq v s hflight, hk])
  · obtain ⟨q, d, -, -, -, hlt⟩ := h.step_lt hk hflight
    refine workLeft_lt_of_command hstage hlt ?_ ?_
    · rw [completion_step v s hflight, if_neg hread, nextStep_toNat hlt]
    · simp [flightLeft, completion_seq v s hflight, hread]

theorem flightLeft_issued {i : Instr} {k : SeqState} (s : State) (hk : (flightOf i).head? = some k) :
    flightLeft (issued i k s) = 1 := by
  cases i with
  | wr | rd | rmw | dly =>
    cases hk
    rfl
  | endSeg => cases hk

theorem RunInv.workLeft_move (h : RunInv s) (hbusy : busy s = true) (hp : responsive p = true) (hmove : Move p s t) :
    workLeft t < workLeft s := by
  cases hmove with
  | illegalState hunused => exact absurd h.stateLegal (by simp [hunused])
  | waits k _ _ hflight hans => simp [answered_of_responsive hp hflight] at hans
  | completes k _ hk hflight => exact h.workLeft_completion _ hk hflight
  | idles hs | starts hs | refusesClass hs => exact absurd rfl (state_ne_of_busy hbusy hs).1
  | rests hs =>
    rcases hs with hs | hs <;> obtain ⟨-, hdone, herror⟩ := state_ne_of_busy hbusy hs
    · exact absurd rfl hdone
    · exact absurd rfl herror
  | converges d hs =>
    refine workLeft_lt_of_stage ?_
    rw [stagesLeft_trnEval hs, stagesLeft_portEn (converge_state s)]
    omega
  | retries hs _ hleft =>
    refine workLeft_lt_of_stage ?_
    rw [stagesLeft_trnEval hs, stagesLeft_enterTrnPulse hleft]
    omega
  | exhausts hs =>
    refine workLeft_lt_of_stage ?_
    rw [stagesLeft_trnEval hs, stagesLeft_portEn (enter_state .portEn s)]
    omega
  | refusesWord c hseg _ hfetch hlegal => simp [h.legal_of_fetch hseg hfetch] at hlegal
  | issues i k _ hseq _ _ hk =>
    refine workLeft_lt_of_flight (stagesLeft_congr rfl rfl) rfl ?_
    rw [flightLeft_issued s hk]
    simp [flightLeft, hseq]
  | ends q q' hrow hs => exact workLeft_lt_of_stage (stagesLeft_plainNext hrow hs _)
  | endsTrnHs hs =>
    have hzero : s.attempt = 0 := h.toStatusInv.attempt_eq_zero hs rfl
    have hleft : (setCur (encode .endSeg) s).attempt.toNat < attemptMax := by simp [hzero, attemptMax]
    refine workLeft_lt_of_stage ?_
    rw [stagesLeft_enterTrnPulse hleft]
    simp [stagesLeft, hs, hzero, attemptMax]
  | endsPortEn hs =>
    refine workLeft_lt_of_stage ?_
    rw [stagesLeft_portEn hs]
    simp [stagesLeft]

end Progress

/-- Settles O57: without reset the step is a move, and every move of a busy block that is answered lowers the bound. -/
theorem responsiveStepReducesWork : Obligations.ResponsiveStepReducesWork := by
  unfold Obligations.ResponsiveStepReducesWork
  intro s t h hbusy hp hstep
  rcases step_moves hstep with ⟨hrst, -⟩ | ⟨-, hmove⟩
  · simp [rst_of_responsive hp] at hrst
  · exact h.after_takePins.workLeft_move hbusy hp hmove

/-! ### A responsive run -/

theorem step_pins {s t : State} (hstep : step s = .next t) : t.pins = s.pins.tail := by
  rcases step_moves hstep with ⟨-, rfl⟩ | ⟨-, hmove⟩
  · rfl
  · cases hmove with
    | _ => simp

theorem busy_of_state {t : State} {q : FsmState} (hs : t.state = stateCode q) (hidle : q ≠ .idle) (hdone : q ≠ .done)
    (herror : q ≠ .error) : busy t = true := by
  simp [busy, hs, hidle, hdone, herror]

/-- A busy block that is not reset stays busy or has come to DONE: under the run invariant no error is left to take. -/
theorem RunInv.busy_or_done {s t : State} (h : RunInv s) (hbusy : busy s = true) {p : Pins} (hmove : Move p s t) :
    busy t = true ∨ t.state = stateCode .done := by
  cases hmove with
  | illegalState hunused => exact absurd h.stateLegal (by simp [hunused])
  | refusesWord c hseg _ hfetch hlegal => simp [h.legal_of_fetch hseg hfetch] at hlegal
  | refusesClass hs => exact absurd rfl (state_ne_of_busy hbusy hs).1
  | waits | idles | rests | issues => exact .inl hbusy
  | completes => exact .inl (by simpa [busy] using hbusy)
  | starts | converges | retries | exhausts | endsTrnHs =>
    exact .inl (by simp [busy])
  | ends q q' hrow =>
    obtain ⟨-, -, -, -, -, hdone, herror⟩ := plainNext_phase hrow
    exact .inl (busy_of_state rfl (by rintro rfl; cases q <;> cases hrow) hdone herror)
  | endsPortEn => exact .inr rfl

theorem run_succ {s t : State} (k : Nat) (hstep : step s = .next t) :
    Sys2Proof.core.run (k + 1) s = Sys2Proof.core.run k t := by
  have hcore : Sys2Proof.core.step s = .next t := hstep
  simp only [Host.Core.run, hcore]

/-- The sample of the next step, where one is listed, is one of the list. -/
theorem pinsNow_mem {s : State} (h : 0 < s.pins.length) : pinsNow s ∈ s.pins := by
  cases hpins : s.pins with
  | nil => simp [hpins] at h
  | cons p ps => simp [pinsNow, hpins]

theorem workLeft_pos_of_busy {s : State} (h : RunInv s) (hbusy : busy s = true) : 0 < workLeft s := by
  obtain ⟨q, hq⟩ := Option.isSome_iff_exists.mp h.stateLegal
  obtain ⟨hidle, hdone, herror⟩ := state_ne_of_busy hbusy (stateOf_eq_some.mp hq)
  have hstage : 0 < stagesLeft s := by
    cases q with
    | idle => exact absurd rfl hidle
    | done => exact absurd rfl hdone
    | error => exact absurd rfl herror
    | entryRst | clkSel | phyCfg | ctrlCfg | trnHs | trnPulse | trnSample | trnEval | portEn => simp [stagesLeft, hq]
  rw [workLeft]
  omega

/-- By induction on the bound: one step, then the rest of the run. -/
theorem reaches_done (n : Nat) : ∀ s : State, RunInv s → busy s = true → (∀ p ∈ s.pins, responsive p = true) →
    workLeft s ≤ s.pins.length → workLeft s ≤ n →
    ∃ k t, k ≤ workLeft s ∧ Sys2Proof.core.run k s = .next t ∧ RunInv t ∧ t.state = stateCode .done := by
  induction n with
  | zero =>
    intro s h hbusy _ _ hzero
    have hpos := workLeft_pos_of_busy h hbusy
    omega
  | succ n ih =>
    intro s h hbusy hpins hlength hn
    have hpos := workLeft_pos_of_busy h hbusy
    have hp := hpins _ (pinsNow_mem (by omega))
    obtain ⟨t, hstep⟩ := h.toStatusInv.step_answers
    have ht := h.after_step hstep
    have hless := responsiveStepReducesWork s t h hbusy hp hstep
    have htail := step_pins hstep
    rcases step_moves hstep with ⟨hrst, -⟩ | ⟨-, hmove⟩
    · simp [rst_of_responsive hp] at hrst
    · rcases h.after_takePins.busy_or_done hbusy hmove with hbusy' | hdone
      · have hpins' : ∀ p ∈ t.pins, responsive p = true := by
          rw [htail]
          exact fun p hp => hpins p (List.mem_of_mem_tail hp)
        have hlength' : t.pins.length = s.pins.length - 1 := by rw [htail, List.length_tail]
        obtain ⟨k, u, hk, hrun, hu, hdone⟩ := ih t ht hbusy' hpins' (by omega) (by omega)
        exact ⟨k + 1, u, by omega, (run_succ k hstep).trans hrun, hu, hdone⟩
      · exact ⟨1, t, by omega, run_succ 0 hstep, ht, hdone⟩

/-- Settles O58: DONE is reached within the bound, and there `done` is set and no error is recorded. -/
theorem bringUpReachesDone : Obligations.BringUpReachesDone := by
  unfold Obligations.BringUpReachesDone
  intro s h hbusy hpins hlength
  obtain ⟨k, t, hk, hrun, ht, hdone⟩ := reaches_done (workLeft s) s h hbusy hpins hlength le_rfl
  obtain ⟨herr, -⟩ := ht.toStatusInv.noError hdone (by simp)
  exact ⟨k, t, hk, hrun, hdone, ht.doneIff.mpr hdone, herr⟩

end Sys2Proof.Safety
end

section
/-! PROOFS. Runs of a segment (20 R58, R60): in a responsive environment a command that makes one access or none takes two
steps, so a segment of such commands is its commands' effects in order, and END. -/

namespace Sys2Proof.Safety

open Sys2Proof.Config Sys2Proof.Machine

/-! ### One command -/

/-- The FSM stands in a segment of undamaged storage under a valid CFG, with nothing in flight. -/
structure StandsIn (q : FsmState) (d : Density) (s : State) : Prop where
  cfgOk : cfgValid s.cfg = true
  storageOk : s.segPatch = []
  state : s.state = stateCode q
  bears : commandBearing q = true
  class_eq : classOf s.dens = some d
  idle : s.seq = seqCode .idle

/-- A command of one access or one delay. -/
def single : Instr → Bool
  | .wr _ _ _ | .rd _ _ _ | .dly _ => true
  | .rmw _ _ _ _ _ | .endSeg => false

/-- The value a read that is issued in this step returns in the next. -/
def answer (s : State) : Word := (pinsNow (takePins s)).mRdata

/-- The samples after a command whose read returns `v`. -/
def sampled (v : Word) (S : Samples) : Instr → Samples
  | .rd k _ _ => writeSample S k v
  | .wr _ _ _ | .rmw _ _ _ _ _ | .dly _ | .endSeg => S

/-- The state when a command of one access has been issued and has completed at once. -/
def afterCommand (i : Instr) (s : State) : State :=
  { s with
    cur := encode i, seq := seqCode .idle, step := s.step + 1, S := sampled (answer s) s.S i
    pins := s.pins.tail.tail, tick := s.tick + 1 + 1, trace := s.trace ++ eventsOf s.cfg (answer s) i }

section Pins

variable {s : State} {p₀ p₁ : Pins} {ps : List Pins}

/-- The value of a read is the sample of the pins in the step after its issue. -/
theorem answer_of_pins (h : s.pins = p₀ :: p₁ :: ps) : answer s = p₁.mRdata :=
  congrArg Pins.mRdata (pinsNow_of_cons (ps := ps) (by simp [h]))

theorem afterCommand_pins (i : Instr) (h : s.pins = p₀ :: p₁ :: ps) : (afterCommand i s).pins = ps := by
  simp [afterCommand, h]

end Pins

section Command

variable {q : FsmState} {d : Density} {s : State} {i : Instr}

theorem StandsIn.inSegment (h : StandsIn q d s) : inSegment s := (inSegment_iff h.state).mpr h.bears

theorem StandsIn.step_lt (h : StandsIn q d s) (hi : (segInstrs q d s.cfg)[s.step.toNat]? = some i) :
    s.step.toNat < 255 := by
  have hlt := (List.getElem?_eq_some_iff.mp hi).1
  have hlength := segInstrs_length_le h.cfgOk d q
  omega

theorem step_succ_toNat {b : BitVec 8} (h : b.toNat < 255) : (b + 1).toNat = b.toNat + 1 := by
  have hone : (1 : BitVec 8).toNat = 1 := rfl
  rw [BitVec.toNat_add, hone]
  omega

/-- The step at a segment's command is its execution. -/
theorem StandsIn.step_eq_exec (h : StandsIn q d s) (hi : (segInstrs q d s.cfg)[s.step.toNat]? = some i)
    (hrst : (pinsNow s).rst = false) : step s = exec i (setCur (encode i) (takePins s)) := by
  have hwf := segInstrs_wf h.cfgOk (List.mem_of_getElem? hi)
  have hfetch := fetch_of_segment h.storageOk (stateOf_eq_some.mpr h.state) h.class_eq hi
  rw [step_of_inSegment hrst h.inSegment h.idle]
  exact fetchExec_of_decode (s := takePins s) hfetch (decode_encode hwf)

theorem single_head (h : single i = true) : ∃ k, (flightOf i).head? = some k ∧ k ≠ .idle := by
  cases i with
  | wr | rd | dly => exact ⟨_, rfl, by simp⟩
  | rmw | endSeg => cases h

/-- The event of a single command's completion is the command's event. -/
theorem completionEvent_issued {u : State} {k : SeqState} (v : Word) (h : single i = true)
    (hk : (flightOf i).head? = some k) (hcur : u.cur = encode i) :
    (completionEvent v u k).toList = eventsOf u.cfg v i := by
  cases i with
  | wr sp off imm =>
    cases hk
    simp [completionEvent, eventsOf, curAddr_of_cur hcur rfl, cmdImm_of_wr hcur]
  | rd k sp off =>
    cases hk
    simp [completionEvent, eventsOf, curAddr_of_cur hcur rfl]
  | dly ns =>
    cases hk
    simp [completionEvent, eventsOf, cmdImm_of_dly hcur]
  | rmw | endSeg => cases h

theorem completion_S_issued {u : State} {k : SeqState} (v : Word) (h : single i = true)
    (hk : (flightOf i).head? = some k) (hcur : u.cur = encode i) : (completion v k u).S = sampled v u.S i := by
  rw [completion_S]
  cases i with
  | rd k sp off =>
    cases hk
    rw [if_pos rfl, cmdSlot_of_rd hcur, sampled]
  | wr | dly =>
    cases hk
    rfl
  | rmw | endSeg => cases h

/-- A single command ends with its completion: `seq`, `step`, the samples and the trace are written and nothing else. -/
theorem completion_single {u : State} {k : SeqState} (v : Word) (h : single i = true)
    (hk : (flightOf i).head? = some k) (hcur : u.cur = encode i) :
    completion v k u =
      { u with
        seq := seqCode .idle, step := nextStep u, S := sampled v u.S i, trace := u.trace ++ eventsOf u.cfg v i } := by
  rw [← completionEvent_issued v h hk hcur, ← completion_S_issued v h hk hcur]
  cases i with
  | wr | rd | dly =>
    cases hk
    rfl
  | rmw | endSeg => cases h

/-- A single command takes two steps: its issue, and its completion in the step after. -/
theorem StandsIn.run_command (h : StandsIn q d s) (hi : (segInstrs q d s.cfg)[s.step.toNat]? = some i)
    (hsingle : single i = true) (hfirst : responsive (pinsNow s) = true)
    (hsecond : responsive (pinsNow (takePins s)) = true) :
    Sys2Proof.core.run 2 s = .next (afterCommand i s) := by
  obtain ⟨k, hk, hflight⟩ := single_head hsingle
  have hwf := segInstrs_wf h.cfgOk (List.mem_of_getElem? hi)
  have hissue : step s = .next (issued i k (takePins s)) := by
    rw [h.step_eq_exec hi (rst_of_responsive hfirst), exec_of_wf _ hk hwf]
    rfl
  have hcomplete : step (issued i k (takePins s)) = .next (afterCommand i s) := by
    have hlt : (takePins (issued i k (takePins s))).step ≠ 255 := by
      intro hlast
      have hbelow := h.step_lt hi
      have heq : s.step = 255 := hlast
      simp [heq] at hbelow
    rw [step_of_answered (s := issued i k (takePins s)) (k := k) (by simp [h.state]) rfl (rst_of_responsive hsecond) hflight
      (answered_of_responsive hsecond hflight), completion_single _ hsingle hk rfl, nextStep_of_ne hlt]
    rfl
  rw [run_succ 1 hissue, run_succ 0 hcomplete]
  rfl

theorem StandsIn.after_command (h : StandsIn q d s) (i : Instr) : StandsIn q d (afterCommand i s) :=
  ⟨h.cfgOk, h.storageOk, h.state, h.bears, h.class_eq, rfl⟩

end Command

/-! ### The commands of a segment -/

/-- The commands one after the other. -/
def afterCommands : List Instr → State → State
  | [], s => s
  | i :: is, s => afterCommands is (afterCommand i s)

theorem run_add {s t : State} {a : Nat} (b : Nat) (h : Sys2Proof.core.run a s = .next t) :
    Sys2Proof.core.run (a + b) s = Sys2Proof.core.run b t := by
  induction a generalizing s with
  | zero =>
    cases h
    rw [Nat.zero_add]
  | succ a ih =>
    cases hstep : step s with
    | next u =>
      rw [run_succ a hstep] at h
      rw [Nat.add_right_comm, run_succ (a + b) hstep]
      exact ih h
    | fault r =>
      have hcore : Sys2Proof.core.step s = .fault r := hstep
      simp [Host.Core.run, hcore] at h
    | refused r =>
      have hcore : Sys2Proof.core.step s = .refused r := hstep
      simp [Host.Core.run, hcore] at h

section Commands

variable {q : FsmState} {d : Density}

theorem StandsIn.after_commands {s : State} (h : StandsIn q d s) (is : List Instr) : StandsIn q d (afterCommands is s) := by
  induction is generalizing s with
  | nil => exact h
  | cons i is ih => exact ih (h.after_command i)

/-- The commands from `step` on, up to a rest of the segment, run as `afterCommands`; `step` is then at the rest. -/
theorem StandsIn.run_commands {is rest : List Instr} : ∀ {s : State}, StandsIn q d s →
    (segInstrs q d s.cfg).drop s.step.toNat = is ++ rest → (∀ i ∈ is, single i = true) →
    (∀ p ∈ s.pins, responsive p = true) → 2 * is.length ≤ s.pins.length →
    Sys2Proof.core.run (2 * is.length) s = .next (afterCommands is s) ∧
      (segInstrs q d s.cfg).drop (afterCommands is s).step.toNat = rest := by
  induction is with
  | nil => exact fun h hdrop _ _ _ => ⟨rfl, hdrop⟩
  | cons i is ih =>
    intro s h hdrop hsingle hpins hlength
    have hi : (segInstrs q d s.cfg)[s.step.toNat]? = some i := by
      rw [← List.head?_drop, hdrop]
      rfl
    obtain ⟨p₀, p₁, ps, hlist⟩ : ∃ p₀ p₁ ps, s.pins = p₀ :: p₁ :: ps := by
      match hlist : s.pins, hlength with
      | p₀ :: p₁ :: ps, _ => exact ⟨p₀, p₁, ps, rfl⟩
    rw [hlist] at hpins hlength
    simp only [List.length_cons, List.forall_mem_cons] at hpins hlength hsingle
    obtain ⟨hp₀, hp₁, hps⟩ := hpins
    have hsecond : pinsNow (takePins s) = p₁ := pinsNow_of_cons (ps := ps) (by simp [hlist])
    have hrun := h.run_command hi hsingle.1 (by rwa [pinsNow_of_cons hlist]) (by rwa [hsecond])
    have hstep : (afterCommand i s).step.toNat = s.step.toNat + 1 := step_succ_toNat (h.step_lt hi)
    have hrest : (segInstrs q d s.cfg).drop (s.step.toNat + 1) = is ++ rest := by
      rw [← List.tail_drop, hdrop]
      rfl
    have hafter := afterCommand_pins i hlist
    obtain ⟨hruns, hend⟩ := ih (h.after_command i) (by rw [hstep]; exact hrest) hsingle.2 (by rwa [hafter])
      (by rw [hafter]; omega)
    refine ⟨?_, hend⟩
    rw [List.length_cons, Nat.mul_succ, Nat.add_comm, run_add _ hrun]
    exact hruns

end Commands

section Frame

variable (is : List Instr) (s : State)

theorem afterCommands_cfg : (afterCommands is s).cfg = s.cfg := by
  induction is generalizing s with
  | nil => rfl
  | cons i is ih => exact ih (afterCommand i s)

theorem afterCommands_attempt : (afterCommands is s).attempt = s.attempt := by
  induction is generalizing s with
  | nil => rfl
  | cons i is ih => exact ih (afterCommand i s)

theorem afterCommands_converged : (afterCommands is s).converged = s.converged := by
  induction is generalizing s with
  | nil => rfl
  | cons i is ih => exact ih (afterCommand i s)

theorem afterCommands_pins : (afterCommands is s).pins = s.pins.drop (2 * is.length) := by
  induction is generalizing s with
  | nil => rfl
  | cons i is ih =>
    have hlength : 2 * (i :: is).length = 2 * is.length + 1 + 1 := by
      rw [List.length_cons]
      omega
    rw [afterCommands, ih, hlength, ← List.drop_tail, ← List.drop_tail]
    rfl

end Frame

theorem eventsOf_readless (cfg : Cfg) (v : Word) {i : Instr} (h : readless i = true) :
    eventsOf cfg v i = eventsOf cfg 0 i := by
  cases i with
  | wr | dly | endSeg => rfl
  | rd | rmw => cases h

theorem sampled_readless (v : Word) (S : Samples) {i : Instr} (h : readless i = true) : sampled v S i = S := by
  cases i with
  | rd => cases h
  | wr | rmw | dly | endSeg => rfl

/-- Commands that read nothing emit the events their operands give and leave the samples. -/
theorem afterCommands_readless {is : List Instr} (h : ∀ i ∈ is, readless i = true) (s : State) :
    (afterCommands is s).trace = s.trace ++ is.flatMap (eventsOf s.cfg 0) ∧ (afterCommands is s).S = s.S := by
  induction is generalizing s with
  | nil => simp [afterCommands]
  | cons i is ih =>
    rw [List.forall_mem_cons] at h
    obtain ⟨hi, his⟩ := h
    obtain ⟨htrace, hS⟩ := ih his (afterCommand i s)
    refine ⟨?_, ?_⟩
    · rw [afterCommands, htrace]
      simp [afterCommand, eventsOf_readless _ _ hi]
    · rw [afterCommands, hS]
      exact sampled_readless _ _ hi

/-! ### END, and the whole segment -/

/-- 41 R134's table as a function; the rows of states without a segment are not used. -/
def nextState : FsmState → FsmState
  | .entryRst => .clkSel
  | .clkSel => .phyCfg
  | .phyCfg => .ctrlCfg
  | .ctrlCfg => .trnHs
  | .trnHs => .trnPulse
  | .trnPulse => .trnSample
  | .trnSample => .trnEval
  | .portEn => .done
  | .idle | .trnEval | .done | .error => .error

/-- What the END of state `q` writes (besides `cur`) and what it leaves. -/
structure Ended (q : FsmState) (s t : State) : Prop where
  state : t.state = stateCode (nextState q)
  step : t.step = 0
  seq : t.seq = s.seq
  S : t.S = s.S
  trace : t.trace = s.trace
  converged : t.converged = s.converged
  attempt : q ≠ .trnHs → t.attempt = s.attempt

theorem endSegment_ended {q : FsmState} {s : State} (hs : s.state = stateCode q) (hq : commandBearing q = true) :
    ∃ t, endSegment s = .next t ∧ Ended q s t := by
  have hplain : ∀ q', plainNext q = some q' → q' = nextState q → ∃ t, endSegment s = .next t ∧ Ended q s t := by
    rintro q' hrow rfl
    exact ⟨_, endSegment_of_plainNext hrow hs, rfl, rfl, rfl, rfl, rfl, rfl, fun _ => rfl⟩
  cases q with
  | entryRst | clkSel | phyCfg | ctrlCfg | trnPulse | trnSample => exact hplain _ rfl rfl
  | trnHs => exact ⟨_, endSegment_of_trnHs hs, rfl, rfl, rfl, rfl, rfl, rfl, fun h => absurd rfl h⟩
  | portEn => exact ⟨_, endSegment_of_portEn hs, rfl, rfl, rfl, rfl, rfl, rfl, fun _ => rfl⟩
  | idle | trnEval | done | error => cases hq

section Segment

variable {q : FsmState} {d : Density} {s : State}

/-- The step at a segment's END. -/
theorem StandsIn.run_end (h : StandsIn q d s) (hdrop : (segInstrs q d s.cfg).drop s.step.toNat = [.endSeg])
    (hrst : (pinsNow s).rst = false) : ∃ t, step s = .next t ∧ Ended q s t := by
  have hi : (segInstrs q d s.cfg)[s.step.toNat]? = some .endSeg := by
    rw [← List.head?_drop, hdrop]
    rfl
  obtain ⟨t, hstep, ht⟩ := endSegment_ended (s := setCur (encode .endSeg) (takePins s)) h.state h.bears
  rw [h.step_eq_exec hi hrst, exec_endSeg]
  exact ⟨t, hstep, ht.state, ht.step, ht.seq, ht.S, ht.trace, ht.converged, ht.attempt⟩

/-- A segment of single commands, run from its start: its commands in order, and END. -/
theorem StandsIn.run_segment (h : StandsIn q d s) (hstep : s.step = 0) {body : List Instr}
    (hbody : segInstrs q d s.cfg = body ++ [.endSeg]) (hsingle : ∀ i ∈ body, single i = true)
    (hpins : ∀ p ∈ s.pins, responsive p = true) (hlength : 2 * body.length + 1 ≤ s.pins.length) :
    ∃ t, Sys2Proof.core.run (2 * body.length + 1) s = .next t ∧ Ended q (afterCommands body s) t := by
  have hdrop : (segInstrs q d s.cfg).drop s.step.toNat = body ++ [.endSeg] := by simpa [hstep] using hbody
  obtain ⟨hrun, hrest⟩ := h.run_commands hdrop hsingle hpins (by omega)
  have hlast : 0 < (afterCommands body s).pins.length := by
    rw [afterCommands_pins, List.length_drop]
    omega
  have hmem := pinsNow_mem hlast
  rw [afterCommands_pins] at hmem
  have hrst := rst_of_responsive (hpins _ (List.mem_of_mem_drop hmem))
  obtain ⟨t, ht, hended⟩ := (h.after_commands body).run_end (by rwa [afterCommands_cfg]) hrst
  exact ⟨t, (run_add 1 hrun).trans (run_succ 0 ht), hended⟩

/-- A run at the first command of a segment stands in it. -/
theorem RunInv.standsIn (h : RunInv s) (hs : s.state = stateCode q) (hclass : classOf s.dens = some d)
    (hidle : s.seq = seqCode .idle) (hbears : commandBearing q = true) : StandsIn q d s :=
  ⟨h.cfgOk, h.storageOk, hs, hbears, hclass, hidle⟩

end Segment

/-- Only the states that bear commands have a segment. -/
theorem commandBearing_of_segInstrs {q : FsmState} {d : Density} {cfg : Cfg} {i : Instr} (h : i ∈ segInstrs q d cfg) :
    commandBearing q = true := by
  cases q with
  | entryRst | clkSel | phyCfg | ctrlCfg | trnHs | trnPulse | trnSample | portEn => rfl
  | idle | trnEval | done | error => cases h

theorem single_of_readless {i : Instr} (h : readless i = true) (hend : i ≠ .endSeg) : single i = true := by
  cases i with
  | wr | dly => rfl
  | rd | rmw => cases h
  | endSeg => exact absurd rfl hend

/-- END stands only at the end of a segment. -/
theorem endSeg_not_mem_body {q : FsmState} {d : Density} {cfg : Cfg} {body : List Instr}
    (h : segInstrs q d cfg = body ++ [.endSeg]) : .endSeg ∉ body := by
  have hbears : commandBearing q = true := commandBearing_of_segInstrs (i := .endSeg) (by rw [h]; simp)
  obtain ⟨body', hbody', hne⟩ := segInstrs_body cfg d hbears
  rwa [List.append_cancel_right (h.symm.trans hbody')]

theorem sampleReads_of_nsamp (cfg : Cfg) (d : Density) :
    (sampleReads cfg).take (nsamp cfg d) =
      if d = .d32M then [.rd 0 .phy cfg.trn.resOff0, .rd 1 .phy cfg.trn.resOff1] else sampleReads cfg := by
  rw [nsamp_eq]
  split <;> rfl

/-- CLK_SEL and TRN_SAMPLE have a command that reads. -/
theorem exists_reading_command {q : FsmState} {d : Density} {cfg : Cfg} {body : List Instr}
    (hq : q = .clkSel ∨ q = .trnSample) (h : segInstrs q d cfg = body ++ [.endSeg]) :
    ∃ i ∈ body, readless i = false := by
  rcases hq with rfl | rfl
  · have hbody : (clkSelSeg cfg d).dropLast = body := List.append_cancel_right h
    exact ⟨_, by rw [← hbody]; exact List.mem_singleton.mpr rfl, rfl⟩
  · have hbody : (sampleReads cfg).take (nsamp cfg d) = body := List.append_cancel_right h
    refine ⟨.rd 0 .phy cfg.trn.resOff0, ?_, rfl⟩
    rw [← hbody, sampleReads_of_nsamp]
    split <;> simp [sampleReads]

/-- Settles O59: its commands are single, so the segment runs as `afterCommands`, which for commands that read nothing emits
exactly their events; CLK_SEL and TRN_SAMPLE read. -/
theorem segmentRunEmitsItsEvents : Obligations.SegmentRunEmitsItsEvents := by
  unfold Obligations.SegmentRunEmitsItsEvents
  intro s q d body h hq hclass hstep hidle hbody hreadless hpins hlength
  have hbears : commandBearing q = true := commandBearing_of_segInstrs (i := .endSeg) (by rw [hbody]; simp)
  have hstands := h.standsIn (stateOf_eq_some.mp hq) hclass hidle hbears
  have hsingle : ∀ i ∈ body, single i = true := fun i hi =>
    single_of_readless (hreadless i hi) (by rintro rfl; exact endSeg_not_mem_body hbody hi)
  obtain ⟨t, hrun, ht⟩ := hstands.run_segment hstep hbody hsingle hpins hlength
  obtain ⟨htrace, hS⟩ := afterCommands_readless hreadless s
  refine ⟨t, hrun, ht.trace.trans htrace, ht.step, ht.seq.trans (hstands.after_commands body).idle, ht.S.trans hS, ?_⟩
  have hstate := ht.state
  cases q with
  | entryRst | phyCfg | ctrlCfg | trnHs | trnPulse | portEn => simpa [nextState] using hstate
  | clkSel | trnSample =>
    obtain ⟨i, hi, hreads⟩ := exists_reading_command (by simp) hbody
    exact absurd (hreadless i hi) (by simp [hreads])
  | idle | trnEval | done | error => cases hbears

/-! ### TRN_SAMPLE -/

theorem single_of_mem_sampleReads {cfg : Cfg} {i : Instr} (h : i ∈ sampleReads cfg) : single i = true := by
  simp only [sampleReads, List.mem_cons, List.not_mem_nil, or_false] at h
  rcases h with rfl | rfl | rfl | rfl <;> rfl

/-- The `k`-th command finds the pins after those of the `k` commands before it, and its read
returns the second of its own. -/
theorem answer_afterCommands (is : List Instr) {s : State} (h : 2 * is.length + 1 < s.pins.length) :
    some (answer (afterCommands is s)) = (s.pins[2 * is.length + 1]?).map Pins.mRdata := by
  obtain ⟨p₀, p₁, ps, hpins⟩ : ∃ p₀ p₁ ps, s.pins.drop (2 * is.length) = p₀ :: p₁ :: ps := by
    have hlength : 2 ≤ (s.pins.drop (2 * is.length)).length := by
      rw [List.length_drop]
      omega
    match hdrop : s.pins.drop (2 * is.length), hlength with
    | p₀ :: p₁ :: ps, _ => exact ⟨p₀, p₁, ps, rfl⟩
  have hsecond : s.pins[2 * is.length + 1]? = some p₁ := by
    rw [← List.getElem?_drop, hpins]
    rfl
  rw [answer_of_pins (by rw [afterCommands_pins, hpins]), hsecond]
  rfl

/-- The four values the reads of TRN_SAMPLE return, in slot order, when the segment is run from `s`. -/
def sampleAnswer (s : State) (k : Nat) : Word := answer (afterCommands ((sampleReads s.cfg).take k) s)

theorem sampleAnswer_eq {s : State} {k : Nat} (hk : k < 4) (h : 2 * k + 1 < s.pins.length) :
    some (sampleAnswer s k) = (s.pins[2 * k + 1]?).map Pins.mRdata := by
  have hlength : ((sampleReads s.cfg).take k).length = k := by
    rw [List.length_take]
    exact Nat.min_eq_left (Nat.le_of_lt hk)
  have hanswer := answer_afterCommands (s := s) ((sampleReads s.cfg).take k) (by rwa [hlength])
  rwa [hlength] at hanswer

/-- The first `n` reads put their values into the first `n` sample registers. -/
theorem sampleAt_afterReads (s : State) {n k : Nat} (hn : n ≤ 4) (hk : k < 4) :
    sampleAt (afterCommands ((sampleReads s.cfg).take n) s).S k =
      if k < n then sampleAnswer s k else sampleAt s.S k := by
  interval_cases n <;> interval_cases k <;> rfl

/-- The read of slot `k` with the value that stands in the slot in `S`. -/
def resultEvents (cfg : Cfg) (S : Samples) : List Event :=
  [.read (physAddr cfg .phy cfg.trn.resOff0) (sampleAt S 0), .read (physAddr cfg .phy cfg.trn.resOff1) (sampleAt S 1),
    .read (physAddr cfg .phy cfg.trn.resOff2) (sampleAt S 2), .read (physAddr cfg .phy cfg.trn.resOff3) (sampleAt S 3)]

/-- The first `n` reads emit their events, whose values are the samples at the end: no slot is read twice. -/
theorem trace_afterReads (s : State) {n : Nat} (hn : n ≤ 4) :
    (afterCommands ((sampleReads s.cfg).take n) s).trace =
      s.trace ++ (resultEvents s.cfg (afterCommands ((sampleReads s.cfg).take n) s).S).take n := by
  interval_cases n <;>
    simp [afterCommands, afterCommand, sampleReads, resultEvents, eventsOf, sampled, sampleAt, readSample, writeSample]

theorem nsamp_le (cfg : Cfg) (d : Density) : nsamp cfg d ≤ 4 := by
  rw [nsamp_eq]
  split <;> omega

/-- Settles O60: the segment is `n` single reads and END, run as `afterCommands`. -/
theorem sampleSegmentReadsResults : Obligations.SampleSegmentReadsResults := by
  unfold Obligations.SampleSegmentReadsResults
  intro s d h hs hclass hstep hidle hpins hlength
  have hn := nsamp_le s.cfg d
  have hbody : ((sampleReads s.cfg).take (nsamp s.cfg d)).length = nsamp s.cfg d := List.length_take_of_le hn
  obtain ⟨t, hrun, ht⟩ := (h.standsIn hs hclass hidle rfl).run_segment hstep rfl
    (fun i hi => single_of_mem_sampleReads (List.mem_of_mem_take hi)) hpins (by rwa [hbody])
  rw [hbody] at hrun
  have hsamples {k : Nat} (hk : k < 4) :
      sampleAt t.S k = if k < nsamp s.cfg d then sampleAnswer s k else sampleAt s.S k := by
    rw [ht.S]
    exact sampleAt_afterReads s hn hk
  refine ⟨t, hrun, ht.state, ht.step, fun k hk => ?_, fun k hk hk4 => ?_, ?_,
    (ht.attempt (by simp)).trans (afterCommands_attempt _ s), ht.converged.trans (afterCommands_converged _ s)⟩
  · rw [hsamples (by omega), if_pos hk, sampleAnswer_eq (by omega) (by omega)]
  · rw [hsamples hk4, if_neg (by omega)]
  · rw [ht.S]
    exact ht.trace.trans (trace_afterReads s hn)

end Sys2Proof.Safety
end
